-- ==== Sys2Proof/Config.lean ====
section
/-!
DEFINITION. Config: the constants of 00_scope.md rules R6 and R7, the arithmetic of the boundary
wrapper's open parameters (R7, R262), and the one free value of the model: what the environment
drives on the input ports in a clock cycle for which no stimulus word is scheduled.
-/

namespace Sys2Proof.Config

/-- Tick rate in hertz; one tick is nominally 1 ms (R6). No rule of the core reads it (R12). -/
@[simp] abbrev TICK_HZ : Nat := 1000

/-- Ceiling of the debounce counter, the spec's `MAX` (R6). -/
@[simp] abbrev DEBOUNCE_TICKS : Nat := 20

/-- Least published duration that is a long press (R6, R176). -/
@[simp] abbrev LONG_PRESS_TICKS : Nat := 3000

/-- MODE_2 half period in ticks (R6). -/
@[simp] abbrev BLINK_HALF_PERIOD : Nat := 50

/-- MODE_3 lamp-ON window in ticks (R6). -/
@[simp] abbrev ON_TIME : Nat := 100

/-- MODE_3 lamp-OFF window in ticks (R6). -/
@[simp] abbrev OFF_TIME : Nat := 900

/-- Ceiling of the press duration (R7, decision D9). -/
@[simp] abbrev DUR_MAX : Nat := 65535

/-- Width of the debounce counter (R7). -/
@[simp] abbrev CNT_W : Nat := 5

/-- Width of the two duration registers (R7). -/
@[simp] abbrev DUR_W : Nat := 16

/-- Width of the pattern phase counter (R7). -/
@[simp] abbrev PHASE_W : Nat := 10

/-- Width of the mode register (R7). -/
@[simp] abbrev MODE_W : Nat := 2

/-- Flip-flops of the button synchroniser, boundary wrapper only (R7, R264). -/
@[simp] abbrev SYNC_STAGES : Nat := 2

/-- `TICK_DIV = CLK_HZ / TICK_HZ` (R7, R262). `CLK_HZ` is open (decision D2), so it is an argument
here and the divider is an argument of everything in Machine/Wrapper.lean. DESIGN CHOICE
(notes/assumptions/12.md): the spec asks for an integer and gives no rounding for a `CLK_HZ` that is
no multiple of `TICK_HZ`; the division rounds down. -/
def tickDiv (clkHz : Nat) : Nat := clkHz / TICK_HZ

/-- FREE VALUE (notes/assumptions/2.md): the stimulus word `{rst, tick, btn_raw}` the environment
drives in the `n`-th clock cycle for which no word is scheduled in `State.script`. The ports are
inputs of the step, "`btn_raw` and `tick` are free inputs, `any value` per cycle"
(93_implementation_defined.md U11). -/
opaque freeStimulus : Nat → BitVec 3

end Sys2Proof.Config
end

