-- ==== Sys2Proof/Word.lean ====
section
/-!
DEFINITION. Word: the types of the values the registers and ports hold (10_state.md rules R20 and
R49; 30_encoding.md rules R84, R91 to R93). All counters are unsigned (R9).
-/

namespace Sys2Proof

/-- A value of `cnt`. The register is five bits wide and never holds 21 to 31 (R22, R40); R49 types
it by its legal values, 0 to `DEBOUNCE_TICKS` (notes/assumptions/6.md). -/
abbrev Cnt := Fin 21

/-- A value of `dur` or `ev_duration`: `DUR_W` = 16 bits, unsigned (R24, R26). -/
abbrev Duration := BitVec 16

/-- A value of `phase`: `PHASE_W` = 10 bits, unsigned (R29). -/
abbrev Phase := BitVec 10

/-- A stimulus word `stim[2:0] = {rst, tick, btn_raw}` (R84): the input of one clock cycle. Every
value 0 to 7 is legal (R95). -/
abbrev Stim := BitVec 3

/-- The three modes; the encoding `00` of the register holds no mode (R27, R92, decision D10). -/
inductive Mode where
  | mode1
  | mode2
  | mode3
  deriving DecidableEq, Repr

end Sys2Proof
end

