-- ==== Sys2Proof/Syntax.lean ====
section
/-!
DEFINITION. Syntax: the 33 operations of spec/opcode_table.json (30_encoding.md rule R99), the six
select vectors that choose them (R85 to R90), and why a select value can name no operation.
-/

namespace Sys2Proof

/-- One constructor per row of the operation map (R99), in the table's order. RESET, HOLD, TICK and
CONSUME are the four steps; the others are the cases of the sub-blocks' updates (R15). -/
inductive Instr where
  | reset
  | hold
  /-- TICK takes the raw button level at its edge as its operand (R124). -/
  | tick (btnRaw : Bool)
  | consume
  | smpUp
  | smpConfirm
  | smpHold
  | smpDown
  | smpRelease
  | smpIdle
  | accIdle
  | accInc
  | accSat
  | accPublish
  | clsShort
  | clsLong
  | cnsShortM1
  | cnsLongM1
  | cnsShortM2
  | cnsLongM2
  | cnsShortM3
  | cnsLongM3
  | phHold
  | phInc
  | phWrap
  | phMclr
  | drvM1
  | drvM2Run
  | drvM2Toggle
  | drvM3OnRun
  | drvM3OnEnd
  | drvM3OffRun
  | drvM3OffEnd
  deriving DecidableEq, Repr

/-- Which choice a select vector is read for. `csel` is read twice in one CONSUME step, once for the
classifier's operation and once for the mode machine's (R88), so it has two slots. -/
inductive Slot where
  | step
  | smp
  | acc
  | cls
  | cns
  | ph
  | drv
  deriving DecidableEq, Repr

/-- The value of one select vector together with the choice it is read for. The button level beside
`stepsel` is TICK's operand; the vector itself does not carry it (R85, R124). -/
inductive SelectWord where
  /-- `stepsel[2:0] = {rst, tick, release_pending}` (R85). -/
  | stepsel (v : BitVec 3) (btnRaw : Bool)
  /-- `ssel[4:0] = {btn_raw, cnt_max, cnt_pre, cnt_zero, pressed}` (R86). -/
  | ssel (v : BitVec 5)
  /-- `asel[2:0] = {acc_stb, release_stb, dur_max}` (R87). -/
  | asel (v : BitVec 3)
  /-- `csel[2:0] = {is_long, mode[1:0]}` read by the classifier (R88). -/
  | cselCls (v : BitVec 3)
  /-- `csel[2:0] = {is_long, mode[1:0]}` read by the mode machine (R88). -/
  | cselCns (v : BitVec 3)
  /-- `psel[2:0] = {mclr, inc_en, wrap}` (R89). -/
  | psel (v : BitVec 3)
  /-- `dsel[3:0] = {mode[1:0], lamp, thr_hit}` (R90). -/
  | dsel (v : BitVec 4)
  deriving DecidableEq, Repr

/-- Why a select value names no operation: the only values outside every pattern of R85 to R90 are
those that encode no mode. -/
inductive Reject where
  /-- `csel = x00`, which "cannot occur" (R88, R95). -/
  | cselWithoutMode
  /-- `dsel = 00xx`, which "cannot occur" (R90, R95). -/
  | dselWithoutMode
  deriving DecidableEq, Repr

end Sys2Proof
end

