-- ==== Sys2Proof/WellFormed.lean ====
section
/-!
DEFINITION. WellFormed: the checks on terms. Every operation of the map is well formed, and so is
every stimulus word (R95: "Every stimulus word 0 to 7 is legal and has a meaning"); what can be ill
formed is a select value no run produces (R95). The one check on a whole stimulus script, the tick spacing of
R290, is `spaced` in Machine/Script.lean, beside the script notation.
-/

namespace Sys2Proof

/-- An operation is well formed whatever its operand: TICK takes either button level (R124) and no
other operation has an operand. There is no illegal operation (R95). -/
def Instr.wellFormed : Instr → Bool := fun _ => true

/-- `ssel` as a run from reset can give it (R95): at most one of `cnt_max`, `cnt_pre`, `cnt_zero` is
set, and `cnt_max` comes with `pressed`. -/
def sselPossible (v : BitVec 5) : Bool :=
  let cntMax := v.getLsbD 3
  let cntPre := v.getLsbD 2
  let cntZero := v.getLsbD 1
  !(cntMax && cntPre) && !(cntMax && cntZero) && !(cntPre && cntZero) && !(cntMax && !v.getLsbD 0)

/-- Whether a run from reset can give the select value (R95). -/
def SelectWord.possible : SelectWord → Bool
  | .stepsel _ _ => true
  | .ssel v => sselPossible v
  | .asel v => !(v.getLsbD 2 && v.getLsbD 1)
  | .cselCls v => v.getLsbD 1 || v.getLsbD 0
  | .cselCns v => v.getLsbD 1 || v.getLsbD 0
  | .psel v => !(v.getLsbD 2 && v.getLsbD 1)
  | .dsel v =>
    (v.getLsbD 3 || v.getLsbD 2) && !(!v.getLsbD 3 && v.getLsbD 2 && v.getLsbD 0)

end Sys2Proof
end

