-- ==== Sys2Proof/Decode.lean ====
section
/-!
DEFINITION. Decode: from the value of a select vector to the operation it chooses (30_encoding.md
rules R85 to R90), total, refusing by name the values that encode no mode; then the encoder, written
from the same tables; then the table's own words.
-/

namespace Sys2Proof

/-! ### Bit fields -/

/-- The port `rst` of a stimulus word, bit 2 (R84). -/
def Stim.rst (w : Stim) : Bool := w.getLsbD 2

/-- The port `tick` of a stimulus word, bit 1 (R84). -/
def Stim.tick (w : Stim) : Bool := w.getLsbD 1

/-- The port `btn_raw` of a stimulus word, bit 0 (R84). -/
def Stim.btnRaw (w : Stim) : Bool := w.getLsbD 0

/-- Whether `v` fits a pattern of the operation map: the bits under `mask` are those of `pat`, the
others are the pattern's `x`. -/
def fits {n : Nat} (v mask pat : BitVec n) : Bool := v &&& mask == pat

/-- `mode[1:0]`: the register holds the mode's own integer (R92). -/
def Mode.bits : Mode → BitVec 2
  | .mode1 => 0b01
  | .mode2 => 0b10
  | .mode3 => 0b11

/-- The mode as DOC0's integer in the closed set 1, 2, 3 (R27). -/
def Mode.toNat (m : Mode) : Nat := m.bits.toNat

/-! ### The decoder, one function per table of 30_encoding.md -/

/-- Step select, R85. The four patterns cover all eight values, so nothing is refused. -/
def decodeStepsel (v : BitVec 3) (btnRaw : Bool) : Instr :=
  if fits v 0b100 0b100 then .reset
  else if fits v 0b110 0b010 then .tick btnRaw
  else if fits v 0b111 0b001 then .consume
  else .hold

/-- Sampler select, R86: `100xx`, `101xx`, `11xxx`, `0xx0x`, `0xx11`, `0xx10`. -/
def decodeSsel (v : BitVec 5) : Instr :=
  if fits v 0b11100 0b10000 then .smpUp
  else if fits v 0b11100 0b10100 then .smpConfirm
  else if fits v 0b11000 0b11000 then .smpHold
  else if fits v 0b10010 0b00000 then .smpDown
  else if fits v 0b10011 0b00011 then .smpRelease
  else .smpIdle

/-- Accumulator select, R87: `00x`, `1x0`, `1x1`, `01x`. -/
def decodeAsel (v : BitVec 3) : Instr :=
  if fits v 0b110 0b000 then .accIdle
  else if fits v 0b101 0b100 then .accInc
  else if fits v 0b101 0b101 then .accSat
  else .accPublish

/-- Consumer select as the classifier reads it, R88: `0xx`, `1xx`. -/
def decodeCls (v : BitVec 3) : Instr :=
  if fits v 0b100 0b000 then .clsShort else .clsLong

/-- Consumer select as the mode machine reads it, R88; `x00` names no operation (R95). -/
def decodeCns (v : BitVec 3) : Option Instr :=
  if fits v 0b111 0b001 then some .cnsShortM1
  else if fits v 0b111 0b101 then some .cnsLongM1
  else if fits v 0b111 0b010 then some .cnsShortM2
  else if fits v 0b111 0b110 then some .cnsLongM2
  else if fits v 0b111 0b011 then some .cnsShortM3
  else if fits v 0b111 0b111 then some .cnsLongM3
  else none

/-- Phase-counter select, R89: `00x`, `010`, `011`, `1xx`. -/
def decodePsel (v : BitVec 3) : Instr :=
  if fits v 0b110 0b000 then .phHold
  else if fits v 0b111 0b010 then .phInc
  else if fits v 0b111 0b011 then .phWrap
  else .phMclr

/-- Driver select, R90; `00xx` names no operation (R95). -/
def decodeDsel (v : BitVec 4) : Option Instr :=
  if fits v 0b1100 0b0100 then some .drvM1
  else if fits v 0b1101 0b1000 then some .drvM2Run
  else if fits v 0b1101 0b1001 then some .drvM2Toggle
  else if fits v 0b1111 0b1110 then some .drvM3OnRun
  else if fits v 0b1111 0b1111 then some .drvM3OnEnd
  else if fits v 0b1111 0b1100 then some .drvM3OffRun
  else if fits v 0b1111 0b1101 then some .drvM3OffEnd
  else none

/-- The operation a select value chooses, total, with the two kinds of value that encode no mode
refused by name. -/
def decode : SelectWord → Except Reject Instr
  | .stepsel v btnRaw => .ok (decodeStepsel v btnRaw)
  | .ssel v => .ok (decodeSsel v)
  | .asel v => .ok (decodeAsel v)
  | .cselCls v => .ok (decodeCls v)
  | .cselCns v => match decodeCns v with
    | some i => .ok i
    | none => .error .cselWithoutMode
  | .psel v => .ok (decodePsel v)
  | .dsel v => match decodeDsel v with
    | some i => .ok i
    | none => .error .dselWithoutMode

/-! ### The encoder -/

/-- The table's `match` of each operation: its pattern with every `x` at 0 (R99). -/
def encode : Instr → SelectWord
  | .reset => .stepsel 0b100 false
  | .hold => .stepsel 0b000 false
  | .tick btnRaw => .stepsel 0b010 btnRaw
  | .consume => .stepsel 0b001 false
  | .smpUp => .ssel 0b10000
  | .smpConfirm => .ssel 0b10100
  | .smpHold => .ssel 0b11000
  | .smpDown => .ssel 0b00000
  | .smpRelease => .ssel 0b00011
  | .smpIdle => .ssel 0b00010
  | .accIdle => .asel 0b000
  | .accInc => .asel 0b100
  | .accSat => .asel 0b101
  | .accPublish => .asel 0b010
  | .clsShort => .cselCls 0b000
  | .clsLong => .cselCls 0b100
  | .cnsShortM1 => .cselCns 0b001
  | .cnsLongM1 => .cselCns 0b101
  | .cnsShortM2 => .cselCns 0b010
  | .cnsLongM2 => .cselCns 0b110
  | .cnsShortM3 => .cselCns 0b011
  | .cnsLongM3 => .cselCns 0b111
  | .phHold => .psel 0b000
  | .phInc => .psel 0b010
  | .phWrap => .psel 0b011
  | .phMclr => .psel 0b100
  | .drvM1 => .dsel 0b0100
  | .drvM2Run => .dsel 0b1000
  | .drvM2Toggle => .dsel 0b1001
  | .drvM3OnRun => .dsel 0b1110
  | .drvM3OnEnd => .dsel 0b1111
  | .drvM3OffRun => .dsel 0b1100
  | .drvM3OffEnd => .dsel 0b1101

/-- The table's `mask` of each operation: the bits its pattern tests (R99). -/
def encodingMask : Instr → Nat
  | .reset => 0x4
  | .hold => 0x7
  | .tick _ => 0x6
  | .consume => 0x7
  | .smpUp => 0x1c
  | .smpConfirm => 0x1c
  | .smpHold => 0x18
  | .smpDown => 0x12
  | .smpRelease => 0x13
  | .smpIdle => 0x13
  | .accIdle => 0x6
  | .accInc => 0x5
  | .accSat => 0x5
  | .accPublish => 0x6
  | .clsShort => 0x4
  | .clsLong => 0x4
  | .cnsShortM1 => 0x7
  | .cnsLongM1 => 0x7
  | .cnsShortM2 => 0x7
  | .cnsLongM2 => 0x7
  | .cnsShortM3 => 0x7
  | .cnsLongM3 => 0x7
  | .phHold => 0x6
  | .phInc => 0x7
  | .phWrap => 0x7
  | .phMclr => 0x4
  | .drvM1 => 0xc
  | .drvM2Run => 0xd
  | .drvM2Toggle => 0xd
  | .drvM3OnRun => 0xf
  | .drvM3OnEnd => 0xf
  | .drvM3OffRun => 0xf
  | .drvM3OffEnd => 0xf

/-- The choice a select value is read for. -/
def SelectWord.slot : SelectWord → Slot
  | .stepsel _ _ => .step
  | .ssel _ => .smp
  | .asel _ => .acc
  | .cselCls _ => .cls
  | .cselCns _ => .cns
  | .psel _ => .ph
  | .dsel _ => .drv

/-- The vector's value as a number, bit 0 least significant (R9). -/
def SelectWord.value : SelectWord → Nat
  | .stepsel v _ => v.toNat
  | .ssel v => v.toNat
  | .asel v => v.toNat
  | .cselCls v => v.toNat
  | .cselCns v => v.toNat
  | .psel v => v.toNat
  | .dsel v => v.toNat

/-- Whether a select value fits the pattern of an operation in the operation map (R99): the same
slot, the tested bits equal, and for TICK the operand the one beside the vector. -/
def SelectWord.fitsPattern (w : SelectWord) (i : Instr) : Bool :=
  w.slot == (encode i).slot && (w.value &&& encodingMask i) == (encode i).value &&
    match i, w with
    | .tick b, .stepsel _ raw => b == raw
    | _, _ => true

/-! ### The words of spec/opcode_table.json -/

/-- Which select vector a bare word of the table is read as (notes/assumptions/3.md). The table gives
a row a vector and a width of 3, 4 or 5; a bare word carries no vector, and the rows' words overlap.
Where the width itself is given it names `dsel` (4) and `ssel` (5), the only vectors of those widths.
Otherwise the word is read as the vector of the first row whose `match` it is, and a word that is no
row's `match` as the narrowest vector that holds it. -/
def tableSelect (nbits w : Nat) : Option SelectWord :=
  if nbits == 5 then (if w < 32 then some (.ssel (BitVec.ofNat 5 w)) else none)
  else if nbits == 4 then (if w < 16 then some (.dsel (BitVec.ofNat 4 w)) else none)
  else if w == 3 then some (.ssel 0b00011)
  else if w == 5 then some (.asel 0b101)
  else if w == 6 then some (.cselCns 0b110)
  else if w == 7 then some (.cselCns 0b111)
  else if w < 8 then some (.stepsel (BitVec.ofNat 3 w) false)
  else if w < 16 then some (.dsel (BitVec.ofNat 4 w))
  else if w < 32 then some (.ssel (BitVec.ofNat 5 w))
  else none

/-- The operation the decoder reads from a bare word of the table; TICK's operand stands in no bit
of its word and is 0. -/
def decodeTableWord (nbits w : Nat) : Option Instr :=
  match tableSelect nbits w with
  | none => none
  | some sel => match decode sel with
    | .ok i => some i
    | .error _ => none

end Sys2Proof
end

