-- ==== Sys2Proof/Machine/State.lean ====
section
/-!
DEFINITION. Machine.State: the nine registers of 10_state.md rule R20 and the model's own account of
the input ports; the machine after reset (R38); the ways a step could stop, of which the hardware has
none (R250).
-/

namespace Sys2Proof.Machine

/-- The machine's state: the nine registers of R20, one field each, then two fields of the model's
own that say what the input ports carry (notes/assumptions/1.md). -/
structure State where
  /-- The debounce counter, 5 bits, legal 0 to 20 (R22, R49). -/
  cnt : Cnt
  /-- True iff the debouncer considers the button held (R23). -/
  pressed : Bool
  /-- The press duration accumulated so far, 16 bits (R24). -/
  dur : Duration
  /-- An event is pending (R25); bit 16 of the handoff word (R62). -/
  releasePending : Bool
  /-- The published duration, 16 bits (R26); bits 15 to 0 of the handoff word (R62). -/
  evDuration : Duration
  /-- The mode register, 2 bits (R27, R49). -/
  mode : Mode
  /-- The last level commanded in MODE_1, `true` = ON (R28). -/
  lampToggle : Bool
  /-- The pattern phase counter, 10 bits (R29). -/
  phase : Phase
  /-- The lamp level, `true` = ON (R30). -/
  lamp : Bool
  /-- MODEL'S OWN: the stimulus words scheduled for the coming clock cycles, the next one first. It
  is the spec's stimulus script (R98), the input of the hardware, not state of it (R35). -/
  script : List Stim
  /-- MODEL'S OWN: how many clock cycles have taken their stimulus from the environment's free
  input because no word was scheduled. -/
  freeCycles : Nat
  deriving DecidableEq, Repr

/-- A fault of the machine. It has no constructor: "The block raises no exception, trap or fault of
any kind" (R250), so nothing raises one. -/
inductive Fault where
  deriving DecidableEq, Repr

/-- A refusal of the model. -/
inductive Refusal where
  /-- Raised by `exec`'s arm of an operation that has no meaning yet; safe. Every operation has its
  meaning, so nothing raises it. -/
  | notModelled (mnemonic : String)
  deriving DecidableEq, Repr

/-- The state right after reset (R38, R281): every register at the value the spec gives, no stimulus
word scheduled and no free input drawn yet (notes/assumptions/8.md). -/
def State.reset : State where
  cnt := 0
  pressed := false
  dur := 0
  releasePending := false
  evDuration := 0
  mode := .mode1
  lampToggle := true
  phase := 0
  lamp := true
  script := []
  freeCycles := 0

end Sys2Proof.Machine
end

