-- ==== Sys2Proof/Machine/Ops.lean ====
section
/-!
DEFINITION. Machine.Ops: register update (00_scope.md rule R10), the arithmetic primitives (R14), and
the two notations for whole words of state (R62, R96). There is no memory (R60), so no operation
reads or writes one, and no exception (R250), so none is taken: the one interrupt, the tick, "saves
nothing and changes no mode, mask or stack" (R256) and is the TICK step of Machine/Steps.lean, after
which there is nothing to return from (R257).
-/

namespace Sys2Proof.Machine

/-- What one operation assigns at its clock edge (R10): for each register the new value, or `none`
where the operation does not assign it. -/
structure Writes where
  cnt : Option Cnt := none
  pressed : Option Bool := none
  dur : Option Duration := none
  releasePending : Option Bool := none
  evDuration : Option Duration := none
  mode : Option Mode := none
  lampToggle : Option Bool := none
  phase : Option Phase := none
  lamp : Option Bool := none
  deriving DecidableEq, Repr

/-- The assignments of two operations of one step, which commit together (R10). Where both assign a
register the first is kept; the one such pair the spec has, a CNS_LONG operation and PH_MCLR, gives
`phase` the same value (R189, R214; notes/assumptions/9.md). -/
def Writes.merge (u v : Writes) : Writes where
  cnt := u.cnt.or v.cnt
  pressed := u.pressed.or v.pressed
  dur := u.dur.or v.dur
  releasePending := u.releasePending.or v.releasePending
  evDuration := u.evDuration.or v.evDuration
  mode := u.mode.or v.mode
  lampToggle := u.lampToggle.or v.lampToggle
  phase := u.phase.or v.phase
  lamp := u.lamp.or v.lamp

/-- The rising edge that commits a step: assigned registers take their new values, "A register that a
step does not assign keeps its value" (R10). The stimulus schedule is no register and is kept. -/
def State.commit (s : State) (w : Writes) : State where
  cnt := w.cnt.getD s.cnt
  pressed := w.pressed.getD s.pressed
  dur := w.dur.getD s.dur
  releasePending := w.releasePending.getD s.releasePending
  evDuration := w.evDuration.getD s.evDuration
  mode := w.mode.getD s.mode
  lampToggle := w.lampToggle.getD s.lampToggle
  phase := w.phase.getD s.phase
  lamp := w.lamp.getD s.lamp
  script := s.script
  freeCycles := s.freeCycles

/-- `cnt + 1`, clamped at the ceiling: the counter is "a symmetric up/down counter with saturation"
(R140, R150). SMP_UP uses it only below the ceiling (R143; notes/assumptions/5.md). -/
def cntUp (c : Cnt) : Cnt :=
  if h : c.val + 1 < 21 then ⟨c.val + 1, h⟩ else c

/-- `cnt - 1`, clamped at 0 (R150). SMP_DOWN uses it only above 0 (R146). -/
def cntDown (c : Cnt) : Cnt :=
  ⟨c.val - 1, Nat.lt_of_le_of_lt (Nat.sub_le _ _) c.isLt⟩

/-- The ceiling `MAX` as a value of `cnt`. -/
def cntMaxValue : Cnt := ⟨Config.DEBOUNCE_TICKS, by decide⟩

/-- `DUR_MAX` as a 16-bit value. -/
def durMaxValue : Duration := BitVec.ofNat 16 Config.DUR_MAX

/-- `satinc(v, max)` on a duration: `v + 1` when `v < max` and `max` otherwise (R14). -/
def satinc (v max : Duration) : Duration := if v < max then v + 1 else max

/-- The handoff word `hw[16:0] = {release_pending, ev_duration}` (R62). -/
def State.handoff (s : State) : BitVec 17 := BitVec.ofBool s.releasePending ++ s.evDuration

/-- The state vector `sv[52:0]` of R96: all 53 bits of the nine registers in the order of R20. -/
def State.vector (s : State) : BitVec 53 :=
  BitVec.ofNat 5 s.cnt.val ++ BitVec.ofBool s.pressed ++ s.dur ++
    BitVec.ofBool s.releasePending ++ s.evDuration ++ s.mode.bits ++ BitVec.ofBool s.lampToggle ++
    s.phase ++ BitVec.ofBool s.lamp

/-- The nine registers as R96 writes a state down. -/
abbrev Tuple := Nat × Bool × Nat × Bool × Nat × Nat × Bool × Nat × Bool

/-- The tuple `(cnt, pressed, dur, release_pending, ev_duration, mode, lamp_toggle, phase, lamp)` of
R96, a bit written as a Bool (R11). -/
def State.tuple (s : State) : Tuple :=
  (s.cnt.val, s.pressed, s.dur.toNat, s.releasePending, s.evDuration.toNat, s.mode.toNat,
    s.lampToggle, s.phase.toNat, s.lamp)

end Sys2Proof.Machine
end

