-- ==== Sys2Proof/Machine/Classifier.lean ====
section
/-!
DEFINITION. Machine.Classifier: press_classifier, the tick-side operations of 42_press_classifier.md
rules R171 to R174 and the consume-side operations of R177 and R178.
-/

namespace Sys2Proof.Machine

/-- ACC_IDLE: no assignment (R171). -/
def accIdleWrites (_s : State) : Writes := {}

def execAccIdle (s : State) : Host.Outcome State Fault Refusal :=
  .next (s.commit (accIdleWrites s))

/-- ACC_INC: `dur <- dur + 1` (R172). -/
def accIncWrites (s : State) : Writes := { dur := some (s.dur + 1) }

def execAccInc (s : State) : Host.Outcome State Fault Refusal :=
  .next (s.commit (accIncWrites s))

/-- ACC_SAT: no assignment, `dur` stays at the ceiling (R173). -/
def accSatWrites (_s : State) : Writes := {}

def execAccSat (s : State) : Host.Outcome State Fault Refusal :=
  .next (s.commit (accSatWrites s))

/-- ACC_PUBLISH: `ev_duration <- dur; release_pending <- 1; dur <- 0`, also when an event is already
pending, which the new one overwrites (R174, R175). -/
def accPublishWrites (s : State) : Writes :=
  { evDuration := some s.dur, releasePending := some true, dur := some 0 }

def execAccPublish (s : State) : Host.Outcome State Fault Refusal :=
  .next (s.commit (accPublishWrites s))

/-- CLS_SHORT: `release_pending <- 0`; `ev_duration` keeps its value (R177). -/
def clsShortWrites (_s : State) : Writes := { releasePending := some false }

def execClsShort (s : State) : Host.Outcome State Fault Refusal :=
  .next (s.commit (clsShortWrites s))

/-- CLS_LONG: `release_pending <- 0`; `ev_duration` keeps its value (R178). -/
def clsLongWrites (_s : State) : Writes := { releasePending := some false }

def execClsLong (s : State) : Host.Outcome State Fault Refusal :=
  .next (s.commit (clsLongWrites s))

end Sys2Proof.Machine
end

