-- ==== Sys2Proof/Machine/Flags.lean ====
section
/-!
DEFINITION. Machine.Flags: the comparisons of 30_encoding.md rule R94 and the values that the four
one-bit registers (R32) are given. None is a condition code.
-/

namespace Sys2Proof.Machine

/-- `cnt_max = (cnt = MAX)` (R86, R94). -/
def State.cntMax (s : State) : Bool := s.cnt.val == Config.DEBOUNCE_TICKS

/-- `cnt_pre = (cnt = MAX - 1)` (R86, R94). -/
def State.cntPre (s : State) : Bool := s.cnt.val == Config.DEBOUNCE_TICKS - 1

/-- `cnt_zero = (cnt = 0)` (R86, R94). -/
def State.cntZero (s : State) : Bool := s.cnt.val == 0

/-- `dur_max = (dur = DUR_MAX)` (R87, R94). -/
def State.durMax (s : State) : Bool := s.dur == durMaxValue

/-- `is_long = (ev_duration >= LONG_PRESS_TICKS)`, a 16-bit unsigned comparison (R83, R94, R176). -/
def State.isLong (s : State) : Bool :=
  (BitVec.ofNat 16 Config.LONG_PRESS_TICKS).ule s.evDuration

/-- The threshold in force, `thr` of R83; "unused when `mode = 1`", so there is none then. -/
def State.thr (s : State) : Option Phase :=
  match s.mode with
  | .mode1 => none
  | .mode2 => some (BitVec.ofNat 10 Config.BLINK_HALF_PERIOD)
  | .mode3 =>
    if s.lamp then some (BitVec.ofNat 10 Config.ON_TIME)
    else some (BitVec.ofNat 10 Config.OFF_TIME)

/-- `phase_next = zext_11(phase) + 1`, 11 bits, which cannot overflow (R83, R210). -/
def State.phaseNext (s : State) : BitVec 11 := s.phase.zeroExtend 11 + 1

/-- `thr_hit`: the mode is not 1 and `phase_next >= zext_11(thr)`, an 11-bit unsigned comparison of
the count after this tick (R83, R94, R215, R218). -/
def State.thrHit (s : State) : Bool :=
  match s.thr with
  | none => false
  | some t => (t.zeroExtend 11).ule s.phaseNext

/-- The level a MODE_1 short press commands: the inverse of `lamp_toggle`, not of `lamp` (R188). -/
def State.toggledLevel (s : State) : Bool := !s.lampToggle

/-- The level at the end of a MODE_2 half period: the inverse of `lamp` (R229). -/
def State.invertedLamp (s : State) : Bool := !s.lamp

end Sys2Proof.Machine
end

