-- ==== Sys2Proof/Machine/Driver.lean ====
section
/-!
DEFINITION. Machine.Driver: blink_driver, the seven cases of 45_blink_driver.md rules R227 to R233.
Each writes at most `lamp`; the phase counter's part of a case is the PH operation selected with it.
-/

namespace Sys2Proof.Machine

/-- DRV_M1: no assignment, the lamp keeps the last commanded level (R227). -/
def drvM1Writes (_s : State) : Writes := {}

def execDrvM1 (s : State) : Host.Outcome State Fault Refusal :=
  .next (s.commit (drvM1Writes s))

/-- DRV_M2_RUN: no assignment to `lamp` (R228). -/
def drvM2RunWrites (_s : State) : Writes := {}

def execDrvM2Run (s : State) : Host.Outcome State Fault Refusal :=
  .next (s.commit (drvM2RunWrites s))

/-- DRV_M2_TOGGLE: `lamp <- not lamp` (R229). -/
def drvM2ToggleWrites (s : State) : Writes := { lamp := some s.invertedLamp }

def execDrvM2Toggle (s : State) : Host.Outcome State Fault Refusal :=
  .next (s.commit (drvM2ToggleWrites s))

/-- DRV_M3_ON_RUN: no assignment to `lamp` (R230). -/
def drvM3OnRunWrites (_s : State) : Writes := {}

def execDrvM3OnRun (s : State) : Host.Outcome State Fault Refusal :=
  .next (s.commit (drvM3OnRunWrites s))

/-- DRV_M3_ON_END: `lamp <- 0` (R231). -/
def drvM3OnEndWrites (_s : State) : Writes := { lamp := some false }

def execDrvM3OnEnd (s : State) : Host.Outcome State Fault Refusal :=
  .next (s.commit (drvM3OnEndWrites s))

/-- DRV_M3_OFF_RUN: no assignment to `lamp` (R232). -/
def drvM3OffRunWrites (_s : State) : Writes := {}

def execDrvM3OffRun (s : State) : Host.Outcome State Fault Refusal :=
  .next (s.commit (drvM3OffRunWrites s))

/-- DRV_M3_OFF_END: `lamp <- 1` (R233). -/
def drvM3OffEndWrites (_s : State) : Writes := { lamp := some true }

def execDrvM3OffEnd (s : State) : Host.Outcome State Fault Refusal :=
  .next (s.commit (drvM3OffEndWrites s))

end Sys2Proof.Machine
end

