-- ==== Sys2Proof/Machine/ModeFsm.lean ====
section
/-!
DEFINITION. Machine.ModeFsm: mode_fsm, the six rows of the transition table of 43_mode_fsm.md rule
R185, rules R188 to R193. The lamp command and the phase clear of a row are among its assignments
(R187, R234).
-/

namespace Sys2Proof.Machine

/-- CNS_SHORT_M1: `lamp_toggle <- not lamp_toggle; lamp <- not lamp_toggle`, both from the old
`lamp_toggle` (R188). -/
def cnsShortM1Writes (s : State) : Writes :=
  { lampToggle := some s.toggledLevel, lamp := some s.toggledLevel }

def execCnsShortM1 (s : State) : Host.Outcome State Fault Refusal :=
  .next (s.commit (cnsShortM1Writes s))

/-- CNS_LONG_M1: `mode <- 2; phase <- 0; lamp <- 0`; `lamp_toggle` is kept (R189, R197). -/
def cnsLongM1Writes (_s : State) : Writes :=
  { mode := some .mode2, phase := some 0, lamp := some false }

def execCnsLongM1 (s : State) : Host.Outcome State Fault Refusal :=
  .next (s.commit (cnsLongM1Writes s))

/-- CNS_SHORT_M2: no assignment in this sub-block, the press is inert (R190, R198). -/
def cnsShortM2Writes (_s : State) : Writes := {}

def execCnsShortM2 (s : State) : Host.Outcome State Fault Refusal :=
  .next (s.commit (cnsShortM2Writes s))

/-- CNS_LONG_M2: `mode <- 3; phase <- 0; lamp <- 1`; `lamp_toggle` is kept (R191, R197). -/
def cnsLongM2Writes (_s : State) : Writes :=
  { mode := some .mode3, phase := some 0, lamp := some true }

def execCnsLongM2 (s : State) : Host.Outcome State Fault Refusal :=
  .next (s.commit (cnsLongM2Writes s))

/-- CNS_SHORT_M3: no assignment in this sub-block, the press is inert (R192, R198). -/
def cnsShortM3Writes (_s : State) : Writes := {}

def execCnsShortM3 (s : State) : Host.Outcome State Fault Refusal :=
  .next (s.commit (cnsShortM3Writes s))

/-- CNS_LONG_M3: `mode <- 1; phase <- 0; lamp <- 1; lamp_toggle <- 1` (R193). -/
def cnsLongM3Writes (_s : State) : Writes :=
  { mode := some .mode1, phase := some 0, lamp := some true, lampToggle := some true }

def execCnsLongM3 (s : State) : Host.Outcome State Fault Refusal :=
  .next (s.commit (cnsLongM3Writes s))

end Sys2Proof.Machine
end

