-- ==== Sys2Proof/Machine/Operands.lean ====
section
/-!
DEFINITION. Machine.Operands: what an operation is selected from. The combinational signals of
30_encoding.md rule R83, the select vectors of R85 to R90 built from them, and the output ports of
R81. Each is a function of the registers and of the stimulus word of the same cycle; none is state
(R35).
-/

namespace Sys2Proof.Machine

/-! ### Signals (R83) -/

/-- `tick_fire = rst = 0 and tick = 1`. -/
def tickFire (w : Stim) : Bool := !Stim.rst w && Stim.tick w

/-- `consume_fire = rst = 0 and tick = 0 and release_pending = 1`. -/
def consumeFire (w : Stim) (s : State) : Bool := !Stim.rst w && !Stim.tick w && s.releasePending

/-- `acc_stb`: a tick with the button pressed and the counter at the ceiling (R149). -/
def accStb (w : Stim) (s : State) : Bool := tickFire w && Stim.btnRaw w && s.cntMax

/-- `release_stb`: a tick with the button released, the counter at 0 and `pressed` set (R149). -/
def releaseStb (w : Stim) (s : State) : Bool :=
  tickFire w && !Stim.btnRaw w && s.cntZero && s.pressed

/-- `ev_short = consume_fire and not is_long`. -/
def evShort (w : Stim) (s : State) : Bool := consumeFire w s && !s.isLong

/-- `ev_long = consume_fire and is_long`. -/
def evLong (w : Stim) (s : State) : Bool := consumeFire w s && s.isLong

/-- `mode_edge = ev_long`. -/
def modeEdge (w : Stim) (s : State) : Bool := evLong w s

/-- `mclr = ev_long`, the mode machine's clear command to the phase counter. -/
def mclr (w : Stim) (s : State) : Bool := evLong w s

/-- `inc_en = tick_fire and mode != 1`. -/
def incEn (w : Stim) (s : State) : Bool := tickFire w && !(s.mode == .mode1)

/-- `wrap = tick_fire and thr_hit`. -/
def wrap (w : Stim) (s : State) : Bool := tickFire w && s.thrHit

/-! ### Select vectors -/

/-- `stepsel[2:0] = {rst, tick, release_pending}` (R85). -/
def stepsel (w : Stim) (s : State) : BitVec 3 :=
  BitVec.ofBool (Stim.rst w) ++ BitVec.ofBool (Stim.tick w) ++ BitVec.ofBool s.releasePending

/-- `ssel[4:0] = {btn_raw, cnt_max, cnt_pre, cnt_zero, pressed}` (R86). -/
def ssel (w : Stim) (s : State) : BitVec 5 :=
  BitVec.ofBool (Stim.btnRaw w) ++ BitVec.ofBool s.cntMax ++ BitVec.ofBool s.cntPre ++
    BitVec.ofBool s.cntZero ++ BitVec.ofBool s.pressed

/-- `asel[2:0] = {acc_stb, release_stb, dur_max}` (R87). -/
def asel (w : Stim) (s : State) : BitVec 3 :=
  BitVec.ofBool (accStb w s) ++ BitVec.ofBool (releaseStb w s) ++ BitVec.ofBool s.durMax

/-- `csel[2:0] = {is_long, mode[1:0]}` (R88). -/
def csel (s : State) : BitVec 3 := BitVec.ofBool s.isLong ++ s.mode.bits

/-- `psel[2:0] = {mclr, inc_en, wrap}` (R89). -/
def psel (w : Stim) (s : State) : BitVec 3 :=
  BitVec.ofBool (mclr w s) ++ BitVec.ofBool (incEn w s) ++ BitVec.ofBool (wrap w s)

/-- `dsel[3:0] = {mode[1:0], lamp, thr_hit}` (R90). -/
def dsel (s : State) : BitVec 4 := s.mode.bits ++ BitVec.ofBool s.lamp ++ BitVec.ofBool s.thrHit

/-! ### Output ports (R81) -/

/-- The output ports of R81. -/
structure Outputs where
  lamp : Bool
  mode : BitVec 2
  modeEdge : Bool
  evShort : Bool
  evLong : Bool
  pressed : Bool
  phase : Phase
  deriving DecidableEq, Repr

/-- What the output ports carry in the clock cycle with stimulus `w` before whose closing edge the
registers hold `s`: four of them are the registers themselves (R131, R226), the strobes are
combinational (decision D31). -/
def outputs (w : Stim) (s : State) : Outputs where
  lamp := s.lamp
  mode := s.mode.bits
  modeEdge := modeEdge w s
  evShort := evShort w s
  evLong := evLong w s
  pressed := s.pressed
  phase := s.phase

end Sys2Proof.Machine
end

