-- ==== Sys2Proof/Machine/PhaseCounter.lean ====
section
/-!
DEFINITION. Machine.PhaseCounter: pattern_phase_counter, the four commands of
44_pattern_phase_counter.md rules R211 to R214.
-/

namespace Sys2Proof.Machine

/-- PH_HOLD: no assignment (R211). -/
def phHoldWrites (_s : State) : Writes := {}

def execPhHold (s : State) : Host.Outcome State Fault Refusal :=
  .next (s.commit (phHoldWrites s))

/-- PH_INC: `phase <- phase + 1` (R212). -/
def phIncWrites (s : State) : Writes := { phase := some (s.phase + 1) }

def execPhInc (s : State) : Host.Outcome State Fault Refusal :=
  .next (s.commit (phIncWrites s))

/-- PH_WRAP: `phase <- 0`, not 1: the tick that wraps is the last of the old window (R213). -/
def phWrapWrites (_s : State) : Writes := { phase := some 0 }

def execPhWrap (s : State) : Host.Outcome State Fault Refusal :=
  .next (s.commit (phWrapWrites s))

/-- PH_MCLR: `phase <- 0`, the mode transition's clear (R214). -/
def phMclrWrites (_s : State) : Writes := { phase := some 0 }

def execPhMclr (s : State) : Host.Outcome State Fault Refusal :=
  .next (s.commit (phMclrWrites s))

end Sys2Proof.Machine
end

