-- ==== Sys2Proof/Machine/Sampler.lean ====
section
/-!
DEFINITION. Machine.Sampler: debounce_sampler, the six cases of 41_debounce_sampler.md rules R143 to
R148. Each operation's assignments, and its meaning by itself: the assignments committed at an edge.
In the hardware an operation commits only as part of the step that selects it (Machine/Steps.lean).
-/

namespace Sys2Proof.Machine

/-- SMP_UP: `cnt <- cnt + 1`; `pressed` keeps its value, whichever it is (R143). -/
def smpUpWrites (s : State) : Writes := { cnt := some (cntUp s.cnt) }

def execSmpUp (s : State) : Host.Outcome State Fault Refusal := .next (s.commit (smpUpWrites s))

/-- SMP_CONFIRM: `cnt <- MAX; pressed <- 1`; `dur` is not touched (R144, decisions D19, D20). -/
def smpConfirmWrites (_s : State) : Writes := { cnt := some cntMaxValue, pressed := some true }

def execSmpConfirm (s : State) : Host.Outcome State Fault Refusal :=
  .next (s.commit (smpConfirmWrites s))

/-- SMP_HOLD: no assignment in this sub-block (R145). -/
def smpHoldWrites (_s : State) : Writes := {}

def execSmpHold (s : State) : Host.Outcome State Fault Refusal :=
  .next (s.commit (smpHoldWrites s))

/-- SMP_DOWN: `cnt <- cnt - 1`; `pressed` keeps its value (R146). -/
def smpDownWrites (s : State) : Writes := { cnt := some (cntDown s.cnt) }

def execSmpDown (s : State) : Host.Outcome State Fault Refusal :=
  .next (s.commit (smpDownWrites s))

/-- SMP_RELEASE: `pressed <- 0`; the event itself is ACC_PUBLISH's (R147). -/
def smpReleaseWrites (_s : State) : Writes := { pressed := some false }

def execSmpRelease (s : State) : Host.Outcome State Fault Refusal :=
  .next (s.commit (smpReleaseWrites s))

/-- SMP_IDLE: no assignment (R148). -/
def smpIdleWrites (_s : State) : Writes := {}

def execSmpIdle (s : State) : Host.Outcome State Fault Refusal :=
  .next (s.commit (smpIdleWrites s))

end Sys2Proof.Machine
end

