-- ==== Sys2Proof/Machine/Steps.lean ====
section
/-!
DEFINITION. Machine.Steps: the four steps of 40_tick_step.md, RESET, HOLD, TICK and CONSUME (R122 to
R125). A TICK or CONSUME step selects one operation in each sub-block concerned, all on the state
before the edge, and commits their assignments together (R10, R99). TICK is the tick interrupt's whole
handler (R252, R256): nothing is saved and nothing restored.
-/

namespace Sys2Proof.Machine

/-- The assignments of a sub-block's operation. The four steps are no operation of a sub-block and
assign nothing here; `stepOps` lists what they perform. -/
def opWrites (i : Instr) (s : State) : Writes :=
  match i with
  | .reset => {}
  | .hold => {}
  | .tick _ => {}
  | .consume => {}
  | .smpUp => smpUpWrites s
  | .smpConfirm => smpConfirmWrites s
  | .smpHold => smpHoldWrites s
  | .smpDown => smpDownWrites s
  | .smpRelease => smpReleaseWrites s
  | .smpIdle => smpIdleWrites s
  | .accIdle => accIdleWrites s
  | .accInc => accIncWrites s
  | .accSat => accSatWrites s
  | .accPublish => accPublishWrites s
  | .clsShort => clsShortWrites s
  | .clsLong => clsLongWrites s
  | .cnsShortM1 => cnsShortM1Writes s
  | .cnsLongM1 => cnsLongM1Writes s
  | .cnsShortM2 => cnsShortM2Writes s
  | .cnsLongM2 => cnsLongM2Writes s
  | .cnsShortM3 => cnsShortM3Writes s
  | .cnsLongM3 => cnsLongM3Writes s
  | .phHold => phHoldWrites s
  | .phInc => phIncWrites s
  | .phWrap => phWrapWrites s
  | .phMclr => phMclrWrites s
  | .drvM1 => drvM1Writes s
  | .drvM2Run => drvM2RunWrites s
  | .drvM2Toggle => drvM2ToggleWrites s
  | .drvM3OnRun => drvM3OnRunWrites s
  | .drvM3OnEnd => drvM3OnEndWrites s
  | .drvM3OffRun => drvM3OffRunWrites s
  | .drvM3OffEnd => drvM3OffEndWrites s

/-- The assignments of several operations selected in one step, each read on the state before the
edge (R10). -/
def gather (ops : List Instr) (s : State) : Writes :=
  match ops with
  | [] => {}
  | i :: rest => (opWrites i s).merge (gather rest s)

/-- The stimulus word of a TICK step with the given raw level: 3 or 2 (R84). -/
def tickStim (btnRaw : Bool) : Stim := if btnRaw then 0b011 else 0b010

/-- A stimulus word of a cycle with no tick and no reset: 0 (R84). -/
def idleStim : Stim := 0b000

/-- The operations a TICK step selects: by `ssel`, `asel`, `dsel` and `psel`, in the order of R124. -/
def tickOps (btnRaw : Bool) (s : State) : List Instr :=
  let w := tickStim btnRaw
  decodeSsel (ssel w s) :: decodeAsel (asel w s) ::
    ((decodeDsel (dsel s)).toList ++ [decodePsel (psel w s)])

/-- The operations a CONSUME step selects: by `csel` twice and by `psel` (R125). -/
def consumeOps (s : State) : List Instr :=
  decodeCls (csel s) :: ((decodeCns (csel s)).toList ++ [decodePsel (psel idleStim s)])

/-- The operation a HOLD step performs: "the phase counter performs PH_HOLD" (R123). -/
def holdOps (_s : State) : List Instr := [.phHold]

/-- The operations of the sub-blocks that a step performs; a sub-block's operation by itself performs
just itself. RESET writes the registers directly (R122). -/
def stepOps (i : Instr) (s : State) : List Instr :=
  match i with
  | .reset => []
  | .hold => holdOps s
  | .tick btnRaw => tickOps btnRaw s
  | .consume => consumeOps s
  | .smpUp => [.smpUp]
  | .smpConfirm => [.smpConfirm]
  | .smpHold => [.smpHold]
  | .smpDown => [.smpDown]
  | .smpRelease => [.smpRelease]
  | .smpIdle => [.smpIdle]
  | .accIdle => [.accIdle]
  | .accInc => [.accInc]
  | .accSat => [.accSat]
  | .accPublish => [.accPublish]
  | .clsShort => [.clsShort]
  | .clsLong => [.clsLong]
  | .cnsShortM1 => [.cnsShortM1]
  | .cnsLongM1 => [.cnsLongM1]
  | .cnsShortM2 => [.cnsShortM2]
  | .cnsLongM2 => [.cnsLongM2]
  | .cnsShortM3 => [.cnsShortM3]
  | .cnsLongM3 => [.cnsLongM3]
  | .phHold => [.phHold]
  | .phInc => [.phInc]
  | .phWrap => [.phWrap]
  | .phMclr => [.phMclr]
  | .drvM1 => [.drvM1]
  | .drvM2Run => [.drvM2Run]
  | .drvM2Toggle => [.drvM2Toggle]
  | .drvM3OnRun => [.drvM3OnRun]
  | .drvM3OnEnd => [.drvM3OnEnd]
  | .drvM3OffRun => [.drvM3OffRun]
  | .drvM3OffEnd => [.drvM3OffEnd]

/-- The assignments of RESET (R122). -/
def resetWrites : Writes where
  cnt := some 0
  pressed := some false
  dur := some 0
  releasePending := some false
  evDuration := some 0
  mode := some .mode1
  lampToggle := some true
  phase := some 0
  lamp := some true

/-- RESET: all nine registers take the values of R38, whatever they held (R122). -/
def execReset (s : State) : Host.Outcome State Fault Refusal := .next (s.commit resetWrites)

/-- HOLD: no assignment (R123). -/
def execHold (s : State) : Host.Outcome State Fault Refusal :=
  .next (s.commit (gather (holdOps s) s))

/-- TICK(btn_raw): the handler, one sampler, one accumulator, one driver and one phase-counter
operation committed at one edge (R124). -/
def execTick (btnRaw : Bool) (s : State) : Host.Outcome State Fault Refusal :=
  .next (s.commit (gather (tickOps btnRaw s) s))

/-- CONSUME: one classifier, one mode-machine and one phase-counter operation committed at one edge
(R125). It is "defined when `s.release_pending = 1`, and the identity otherwise" (R127). -/
def execConsume (s : State) : Host.Outcome State Fault Refusal :=
  if s.releasePending then .next (s.commit (gather (consumeOps s) s)) else .next s

end Sys2Proof.Machine
end

