-- ==== Sys2Proof/Machine/Dispatch.lean ====
section
/-!
DEFINITION. Machine.Dispatch: one arm per operation of the map (30_encoding.md rule R99).
-/

namespace Sys2Proof.Machine

def exec (i : Instr) (s : State) : Host.Outcome State Fault Refusal :=
  match i with
  | .reset => Sys2Proof.Machine.execReset s
  | .hold => Sys2Proof.Machine.execHold s
  | .tick btnRaw => Sys2Proof.Machine.execTick btnRaw s
  | .consume => Sys2Proof.Machine.execConsume s
  | .smpUp => Sys2Proof.Machine.execSmpUp s
  | .smpConfirm => Sys2Proof.Machine.execSmpConfirm s
  | .smpHold => Sys2Proof.Machine.execSmpHold s
  | .smpDown => Sys2Proof.Machine.execSmpDown s
  | .smpRelease => Sys2Proof.Machine.execSmpRelease s
  | .smpIdle => Sys2Proof.Machine.execSmpIdle s
  | .accIdle => Sys2Proof.Machine.execAccIdle s
  | .accInc => Sys2Proof.Machine.execAccInc s
  | .accSat => Sys2Proof.Machine.execAccSat s
  | .accPublish => Sys2Proof.Machine.execAccPublish s
  | .clsShort => Sys2Proof.Machine.execClsShort s
  | .clsLong => Sys2Proof.Machine.execClsLong s
  | .cnsShortM1 => Sys2Proof.Machine.execCnsShortM1 s
  | .cnsLongM1 => Sys2Proof.Machine.execCnsLongM1 s
  | .cnsShortM2 => Sys2Proof.Machine.execCnsShortM2 s
  | .cnsLongM2 => Sys2Proof.Machine.execCnsLongM2 s
  | .cnsShortM3 => Sys2Proof.Machine.execCnsShortM3 s
  | .cnsLongM3 => Sys2Proof.Machine.execCnsLongM3 s
  | .phHold => Sys2Proof.Machine.execPhHold s
  | .phInc => Sys2Proof.Machine.execPhInc s
  | .phWrap => Sys2Proof.Machine.execPhWrap s
  | .phMclr => Sys2Proof.Machine.execPhMclr s
  | .drvM1 => Sys2Proof.Machine.execDrvM1 s
  | .drvM2Run => Sys2Proof.Machine.execDrvM2Run s
  | .drvM2Toggle => Sys2Proof.Machine.execDrvM2Toggle s
  | .drvM3OnRun => Sys2Proof.Machine.execDrvM3OnRun s
  | .drvM3OnEnd => Sys2Proof.Machine.execDrvM3OnEnd s
  | .drvM3OffRun => Sys2Proof.Machine.execDrvM3OffRun s
  | .drvM3OffEnd => Sys2Proof.Machine.execDrvM3OffEnd s

end Sys2Proof.Machine
end

