-- ==== Sys2Proof/Machine/Fetch.lean ====
section
/-!
DEFINITION. Machine.Fetch: what stands in the place of an instruction fetch. There is no program
counter and no memory (10_state.md rule R31, 20_memory.md rule R60); "What happens at each clock edge
is chosen by the stimulus word and by `release_pending` alone" (R31, R121). Also how the model stages
an operation so that the next step performs it.
-/

namespace Sys2Proof.Machine

/-- The stimulus word of the coming clock cycle: the first scheduled word, or the environment's free
input where none is scheduled (notes/assumptions/1.md and 2.md). -/
def State.stim (s : State) : Stim :=
  match s.script with
  | w :: _ => w
  | [] => Config.freeStimulus s.freeCycles

/-- The same registers with another schedule of stimulus words. -/
def State.withScript (s : State) (ws : List Stim) : State := { s with script := ws }

/-- The state once the cycle's stimulus word is taken; no register changes. -/
def State.advance (s : State) : State :=
  match s.script with
  | _ :: ws => s.withScript ws
  | [] => { s with freeCycles := s.freeCycles + 1 }

/-- The select value that chooses the step of a cycle (R85), with TICK's operand beside it. -/
def stepWord (w : Stim) (s : State) : SelectWord := .stepsel (stepsel w s) (Stim.btnRaw w)

/-- Step selection (R121): the step the cycle's select value is decoded to. -/
def selectStep (w : Stim) (s : State) : Instr := decodeStepsel (stepsel w s) (Stim.btnRaw w)

/-- The stimulus word under which an operation can be performed (R99): a reset cycle for RESET, a
tick with the level the operation needs for those of a TICK step, a cycle without a tick for the
rest. -/
def stagedStim (i : Instr) : Stim :=
  match i with
  | .reset => 0b100
  | .hold => idleStim
  | .tick btnRaw => tickStim btnRaw
  | .consume => idleStim
  | .smpUp => tickStim true
  | .smpConfirm => tickStim true
  | .smpHold => tickStim true
  | .smpDown => tickStim false
  | .smpRelease => tickStim false
  | .smpIdle => tickStim false
  | .accIdle => tickStim false
  | .accInc => tickStim true
  | .accSat => tickStim true
  | .accPublish => tickStim false
  | .clsShort => idleStim
  | .clsLong => idleStim
  | .cnsShortM1 => idleStim
  | .cnsLongM1 => idleStim
  | .cnsShortM2 => idleStim
  | .cnsLongM2 => idleStim
  | .cnsShortM3 => idleStim
  | .cnsLongM3 => idleStim
  | .phHold => idleStim
  | .phInc => tickStim false
  | .phWrap => tickStim false
  | .phMclr => idleStim
  | .drvM1 => tickStim false
  | .drvM2Run => tickStim false
  | .drvM2Toggle => tickStim false
  | .drvM3OnRun => tickStim false
  | .drvM3OnEnd => tickStim false
  | .drvM3OffRun => tickStim false
  | .drvM3OffEnd => tickStim false

/-- An event of the given duration pending (R62). -/
def State.withEvent (s : State) (d : Duration) : State :=
  { s with releasePending := true, evDuration := d }

/-- The registers an operation's select pattern tests, set so that the pattern is met (R85 to R90);
every other register is kept. -/
def State.stagedRegs (i : Instr) (s : State) : State :=
  match i with
  | .reset => s
  | .hold => { s with releasePending := false }
  | .tick _ => s
  | .consume => { s with releasePending := true }
  | .smpUp => { s with cnt := if s.cnt.val < 19 then s.cnt else 0 }
  | .smpConfirm => { s with cnt := 19 }
  | .smpHold => { s with cnt := 20, pressed := true }
  | .smpDown => { s with cnt := if 0 < s.cnt.val then s.cnt else 1 }
  | .smpRelease => { s with cnt := 0, pressed := true }
  | .smpIdle => { s with cnt := 0, pressed := false }
  | .accIdle => { s with cnt := 0, pressed := false }
  | .accInc => { s with cnt := 20, pressed := true, dur := 0 }
  | .accSat => { s with cnt := 20, pressed := true, dur := durMaxValue }
  | .accPublish => { s with cnt := 0, pressed := true }
  | .clsShort => s.withEvent 0
  | .clsLong => s.withEvent 3000
  | .cnsShortM1 => { s.withEvent 0 with mode := .mode1 }
  | .cnsLongM1 => { s.withEvent 3000 with mode := .mode1 }
  | .cnsShortM2 => { s.withEvent 0 with mode := .mode2 }
  | .cnsLongM2 => { s.withEvent 3000 with mode := .mode2 }
  | .cnsShortM3 => { s.withEvent 0 with mode := .mode3 }
  | .cnsLongM3 => { s.withEvent 3000 with mode := .mode3 }
  | .phHold => { s with releasePending := false }
  | .phInc => { s with mode := .mode2, phase := 0 }
  | .phWrap => { s with mode := .mode2, phase := 49 }
  | .phMclr => s.withEvent 3000
  | .drvM1 => { s with mode := .mode1 }
  | .drvM2Run => { s with mode := .mode2, phase := 0 }
  | .drvM2Toggle => { s with mode := .mode2, phase := 49 }
  | .drvM3OnRun => { s with mode := .mode3, phase := 0, lamp := true }
  | .drvM3OnEnd => { s with mode := .mode3, phase := 99, lamp := true }
  | .drvM3OffRun => { s with mode := .mode3, phase := 0, lamp := false }
  | .drvM3OffEnd => { s with mode := .mode3, phase := 899, lamp := false }

/-- The state whose very next step performs the operation: the stimulus word it needs takes the place
of the next scheduled one, and the registers its pattern tests meet the pattern
(notes/assumptions/4.md). An operation of a sub-block is performed by the TICK, CONSUME or HOLD step
that selects it, together with the other sub-blocks' operations of that step (R99). -/
def State.staged (i : Instr) (s : State) : State :=
  (s.stagedRegs i).withScript (stagedStim i :: s.script.tail)

/-- The state whose next step performs the operation that a bare word of the table is decoded to;
nothing is staged for a word that names none. -/
def State.stagedWord (s : State) (nbits w : Nat) : State :=
  match decodeTableWord nbits w with
  | some i => s.staged i
  | none => s

end Sys2Proof.Machine
end

