-- ==== Sys2Proof/Machine/Step.lean ====
section
/-!
DEFINITION. Machine.Step: one rising edge of `clk` (40_tick_step.md rules R120 and R121).
-/

namespace Sys2Proof.Machine

/-- One clock cycle with the input ports at `w`: the selected step commits (R120, R121). -/
def clock (w : Stim) (s : State) : Host.Outcome State Fault Refusal := exec (selectStep w s) s

/-- One clock cycle with the stimulus word the schedule or the environment gives. -/
def step (s : State) : Host.Outcome State Fault Refusal := clock s.stim s.advance

/-- The state whose very next step runs the instruction of a bare table word
(notes/assumptions/4.md). -/
def State.withFetchWord (s : State) (nbits w : Nat) : State := s.stagedWord nbits w

end Sys2Proof.Machine
end

