-- ==== Sys2Proof/Machine/Script.lean ====
section
/-!
DEFINITION. Machine.Script: stimulus scripts, the spec's programs (30_encoding.md rules R84 and R98),
the tick spacing they owe the hardware (70_reset_and_hazards.md rule R290), and running one.
-/

namespace Sys2Proof.Machine

/-! ### Script notation (R98) -/

/-- `RST`: one RESET cycle, `4`. -/
def scriptRst : List Stim := [4]

/-- `I`: one cycle with no tick, `0`. -/
def scriptI : List Stim := [0]

/-- `T0`: one tick with raw level released, then the consumer's slot, `2 0`. -/
def scriptT0 : List Stim := [2, 0]

/-- `T1`: one tick with raw level pressed, then the consumer's slot, `3 0`. -/
def scriptT1 : List Stim := [3, 0]

/-- `W*n`: repetition of a word or a group. -/
def scriptRepeat (ws : List Stim) (n : Nat) : List Stim := (List.replicate n ws).flatten

/-- `T1` or `T0` for each raw level of a list. -/
def scriptTicks (raws : List Bool) : List Stim :=
  (raws.map fun raw => if raw then scriptT1 else scriptT0).flatten

/-- `HELD a..b, c..d, ... UNTIL e`: `T1` on every tick of 1 to `e` inside a listed range, `T0` on the
others. -/
def scriptHeld (ranges : List (Nat × Nat)) (e : Nat) : List Stim :=
  scriptTicks ((List.range e).map fun k => ranges.any fun r => r.1 ≤ k + 1 && k + 1 ≤ r.2)

/-- `ALT n`: `n` ticks alternating pressed, released, starting with pressed. -/
def scriptAlt (n : Nat) : List Stim := scriptTicks ((List.range n).map fun k => k % 2 == 0)

/-! ### Tick spacing (R290) -/

/-- `spacedFrom blocked ws`: the script keeps R290 when `blocked` says that a tick has gone by and no
cycle of `tick = 0` and `rst = 0` after it yet. -/
def spacedFrom : Bool → List Stim → Bool
  | _, [] => true
  | blocked, w :: ws =>
    if Stim.tick w then !blocked && spacedFrom true ws
    else spacedFrom (blocked && Stim.rst w) ws

/-- The hazard rule R290: "Between any two clock cycles with `tick = 1` there must be at least one
cycle with `tick = 0` and `rst = 0`." -/
def spaced (ws : List Stim) : Bool := spacedFrom false ws

/-! ### Runs -/

/-- The clock cycles of a script, one after the other (R84: "A run of the hardware is a sequence of
stimulus words, one per clock cycle"). -/
def runScript : List Stim → State → Host.Outcome State Fault Refusal
  | [], s => .next s
  | w :: ws, s =>
    match clock w s with
    | .next t => runScript ws t
    | .fault r => .fault r
    | .refused r => .refused r

/-- How many cycles of a script consume a long press: those in which `ev_long` is 1 (R83, R194). -/
def longEvents : List Stim → State → Nat
  | [], _ => 0
  | w :: ws, s =>
    match clock w s with
    | .next t => (if evLong w s then 1 else 0) + longEvents ws t
    | .fault _ => 0
    | .refused _ => 0

/-- No cycle of the script resets, and no cycle consumes an event that R239 lets act on the pattern: a
long press, or any press in MODE_1. -/
def patternUndisturbed : List Stim → State → Bool
  | [], _ => true
  | w :: ws, s =>
    !Stim.rst w && !evLong w s && !(evShort w s && s.mode == .mode1) &&
      match clock w s with
      | .next t => patternUndisturbed ws t
      | .fault _ => false
      | .refused _ => false

end Sys2Proof.Machine
end

