-- ==== Sys2Proof/Machine/TickLevel.lean ====
section
/-!
DEFINITION. Machine.TickLevel: the whole behaviour as functions from state to state, written from the
pseudocode of 40_tick_step.md rules R126 to R128 and not from the operations of the other files. The
spec says the operation rules govern if the two ever disagree (R126), so `step` does not call these;
that they agree is a claim.
-/

namespace Sys2Proof.Machine

/-- Part (a) of `Handler`: sample the input (R126); 20 is `MAX`. -/
def sampleInput (s : State) (raw : Bool) : State :=
  if raw then
    if h : s.cnt.val < 20 then
      let cnt' : Cnt := ⟨s.cnt.val + 1, by omega⟩
      { s with
        cnt := cnt'
        pressed := if cnt'.val = Config.DEBOUNCE_TICKS then true else s.pressed }
    else { s with dur := satinc s.dur durMaxValue }
  else if 0 < s.cnt.val then { s with cnt := ⟨s.cnt.val - 1, by have := s.cnt.isLt; omega⟩ }
  else if s.pressed then
    { s with evDuration := s.dur, releasePending := true, pressed := false, dur := 0 }
  else s

/-- Part (b) of `Handler`: advance the output pattern for the current mode (R126). -/
def advancePattern (s : State) : State :=
  let window (thr : Nat) : State :=
    if s.phase.toNat + 1 ≥ thr then { s with lamp := !s.lamp, phase := 0 }
    else { s with phase := s.phase + 1 }
  match s.mode with
  | .mode1 => s
  | .mode2 => window Config.BLINK_HALF_PERIOD
  | .mode3 => if s.lamp then window Config.ON_TIME else window Config.OFF_TIME

/-- `Handler(s, raw)`, a TICK step: sampling, then the pattern (R126, R70). -/
def handler (s : State) (raw : Bool) : State := advancePattern (sampleInput s raw)

/-- `Consume(s)`, a CONSUME step, or the identity when no event is pending (R127). -/
def consume (s : State) : State :=
  if s.releasePending then
    let c := { s with releasePending := false }
    match s.mode, decide (Config.LONG_PRESS_TICKS ≤ s.evDuration.toNat) with
    | .mode1, false => { c with lampToggle := !s.lampToggle, lamp := !s.lampToggle }
    | .mode1, true => { c with mode := .mode2, phase := 0, lamp := false }
    | .mode2, false => c
    | .mode2, true => { c with mode := .mode3, phase := 0, lamp := true }
    | .mode3, false => c
    | .mode3, true => { c with mode := .mode1, phase := 0, lamp := true, lampToggle := true }
  else s

/-- `TickStep(s, raw) = Consume(Handler(s, raw))` (R128). -/
def tickStep (s : State) (raw : Bool) : State := consume (handler s raw)

/-- The state after ticks with the given raw levels, each followed by the consumer's slot: `TickStep`
"iterated over the sequence of raw levels" (R128). -/
def ticks (s : State) (raws : List Bool) : State := raws.foldl tickStep s

end Sys2Proof.Machine
end

