-- ==== Sys2Proof/Machine/Wrapper.lean ====
section
/-!
DEFINITION. Machine.Wrapper: the reference boundary wrapper of 60_exceptions.md rules R262, R264 and
R265, outside the core: the tick generator, the button synchroniser and the two pin inverters. It is
no part of `State` (R36) and `step` does not read it; a board is a core with a wrapper around it. The
divider `TICK_DIV` is open (decision D4), so it is an argument (notes/assumptions/7.md).
-/

namespace Sys2Proof.Machine

/-- The wrapper's own state (R36): the prescaler count and the flip-flops of the synchroniser, in the
order the level passes them. They hold levels of the pin, which is active low. -/
structure Wrapper where
  divCnt : Nat
  sync1 : Bool
  sync2 : Bool
  deriving DecidableEq, Repr

/-- `tick = (div_cnt = TICK_DIV - 1)` (R262). -/
def Wrapper.tick (tickDiv : Nat) (w : Wrapper) : Bool := w.divCnt + 1 == tickDiv

/-- `btn_raw = not btn_n_sync` (R264). -/
def Wrapper.btnRaw (w : Wrapper) : Bool := !w.sync2

/-- The stimulus word the wrapper drives on the core's ports in a cycle with the given reset line. -/
def Wrapper.stim (tickDiv : Nat) (rst : Bool) (w : Wrapper) : Stim :=
  BitVec.ofBool rst ++ BitVec.ofBool (w.tick tickDiv) ++ BitVec.ofBool w.btnRaw

/-- The wrapper after the edge: `div_cnt` "runs 0 to `TICK_DIV - 1` and wraps", "cleared by `rst`"
(R262); the pin level moves one flip-flop on, with no reset (R264). -/
def Wrapper.next (tickDiv : Nat) (rst btnN : Bool) (w : Wrapper) : Wrapper where
  divCnt := if rst then 0 else if w.tick tickDiv then 0 else w.divCnt + 1
  sync1 := btnN
  sync2 := w.sync1

/-- The lamp pin, `lamp_n = not lamp` (R265). -/
def lampN (s : State) : Bool := !s.lamp

/-- A core with its wrapper. -/
structure Board where
  core : State
  wrapper : Wrapper
  deriving DecidableEq, Repr

/-- One clock cycle of the board with the reset line and the button pin at the given levels. -/
def Board.clock (tickDiv : Nat) (rst btnN : Bool) (b : Board) : Host.Outcome Board Fault Refusal :=
  match Sys2Proof.Machine.clock (b.wrapper.stim tickDiv rst) b.core with
  | .next t => .next { core := t, wrapper := b.wrapper.next tickDiv rst btnN }
  | .fault r => .fault r
  | .refused r => .refused r

/-- The stimulus words the wrapper drives over cycles with the given reset line and button pin. -/
def Wrapper.script (tickDiv : Nat) : List (Bool × Bool) → Wrapper → List Stim
  | [], _ => []
  | (rst, btnN) :: pins, w => w.stim tickDiv rst :: Wrapper.script tickDiv pins (w.next tickDiv rst btnN)

end Sys2Proof.Machine
end

