-- ==== Sys2Proof/Safety.lean ====
section
/-!
DEFINITION. Safety: the invariants of 10_state.md rules R40 to R47, and the predicates the claims use. No
step can end in a fault or a refusal (R129, R250), so a safe run is any run.
-/

namespace Sys2Proof

open Sys2Proof.Machine

/-- The invariants of 10_state.md, one conjunct a rule: R40, R41, R42, R43, R44, R45, R46, R47. R40,
R43 and R44 hold of every `State` by its types and are stated all the same. The numbers are
`DEBOUNCE_TICKS`, `DUR_MAX`, `BLINK_HALF_PERIOD - 1`, `ON_TIME - 1` and `OFF_TIME - 1`. -/
abbrev RegInv (s : State) : Prop :=
  s.cnt.val ≤ 20 ∧
  (s.cnt.val = 20 → s.pressed = true) ∧
  (s.pressed = false → s.dur = 0) ∧
  (s.dur.toNat ≤ 65535 ∧ s.evDuration.toNat ≤ 65535) ∧
  (s.mode.toNat = 1 ∨ s.mode.toNat = 2 ∨ s.mode.toNat = 3) ∧
  (s.mode = .mode1 → s.phase = 0 ∧ s.lamp = s.lampToggle) ∧
  (s.mode = .mode2 → s.phase.toNat ≤ 49) ∧
  (s.mode = .mode3 → (s.lamp = true → s.phase.toNat ≤ 99) ∧
    (s.lamp = false → s.phase.toNat ≤ 899))

/-- The sampler idle: the counter at 0 and the button not considered held (R151). -/
abbrev SamplerIdle (s : State) : Prop := s.cnt.val = 0 ∧ s.pressed = false

/-- The pattern side of two states agrees: mode, lamp and phase, all that the driver reads (R239). -/
abbrev SamePattern (s t : State) : Prop := s.mode = t.mode ∧ s.lamp = t.lamp ∧ s.phase = t.phase

/-- Two states have the same nine registers (R20); the stimulus schedule may differ. -/
abbrev SameRegisters (s t : State) : Prop :=
  s.cnt = t.cnt ∧ s.pressed = t.pressed ∧ s.dur = t.dur ∧ s.releasePending = t.releasePending ∧
  s.evDuration = t.evDuration ∧ s.mode = t.mode ∧ s.lampToggle = t.lampToggle ∧ s.phase = t.phase ∧
  s.lamp = t.lamp

/-- A cycle with neither reset nor tick: the consumer's slot (R121). -/
abbrev FreeCycle (w : Stim) : Prop := Stim.rst w = false ∧ Stim.tick w = false

/-- A cycle that is a TICK step: `tick_fire` (R83). -/
abbrev TickCycle (w : Stim) : Prop := Stim.rst w = false ∧ Stim.tick w = true

end Sys2Proof
end

