-- ==== Sys2Proof/Certificates/Slice0/Obligations.lean ====
section
/-!
DEFINITION. Obligations: the statements for the provers, from the numbered rules of spec/. Counts are
written as the spec's numbers: 20 `DEBOUNCE_TICKS` (`MAX`), 3000 `LONG_PRESS_TICKS`, 50
`BLINK_HALF_PERIOD`, 100 `ON_TIME`, 900 `OFF_TIME`, 65535 `DUR_MAX`;
`ParametersMeetTheirConstraints` says that the constants of Config have these values.
-/

open Sys2Proof Sys2Proof.Machine

/-! ### Reset and invariants -/

/-- R122, R38. Any stimulus word with `rst = 1` is a RESET step, whatever `tick`, `btn_raw` and the
state are; all nine registers take the values of R38, so a second RESET changes nothing. -/
def Obligations.ResetGivesEveryRegisterItsValue : Prop :=
  ∀ (w : Stim) (s : State), Stim.rst w = true →
    selectStep w s = .reset ∧ clock w s = exec .reset s ∧
    exec .reset s = .next
      { cnt := 0, pressed := false, dur := 0, releasePending := false, evDuration := 0,
        mode := .mode1, lampToggle := true, phase := 0, lamp := true,
        script := s.script, freeCycles := s.freeCycles }

/-- The reset state meets the invariants R40 to R47. -/
def Obligations.ResetMeetsTheInvariants : Prop := RegInv State.reset

/-- R129 with R40 to R47: from every state that meets the invariants, every stimulus word leads to a
next state that meets them again; so does a step. -/
def Obligations.EveryStepKeepsTheInvariants : Prop :=
  (∀ (w : Stim) (s : State), RegInv s → ∃ t, clock w s = .next t ∧ RegInv t) ∧
  (∀ s : State, RegInv s → ∃ t, step s = .next t ∧ RegInv t)

/-- R47, last clause, with R44 and R40: what the invariants leave as legal register values. The phase
never exceeds 899, and the handoff's duration needs no bound of its own. -/
def Obligations.PhaseNeverExceeds899 : Prop :=
  ∀ (w : Stim) (s : State), RegInv s → ∃ t, clock w s = .next t ∧ t.phase.toNat ≤ 899

/-! ### Encoding -/

/-- R85 to R90, R99. Decode and encode agree: the decoding of the encoding of every operation, with
TICK's operand at both values, is that operation; a select value is decoded to an operation exactly
when it fits that operation's pattern of the operation map, so the patterns of one vector are
pairwise disjoint; and every value a run can give a vector fits one. -/
def Obligations.DecodeAndEncodeAgree : Prop :=
  (∀ i : Instr, decode (encode i) = .ok i) ∧
  (∀ (v : SelectWord) (i : Instr), decode v = .ok i ↔ v.fitsPattern i = true) ∧
  (∀ v : SelectWord, v.possible = true → ∃ i, decode v = .ok i)

/-- Words written out bit by bit from the patterns of R85 to R90, at least one a vector, with the
pattern's `x` bits set as well as clear. -/
def Obligations.WrittenWordsDecode : Prop :=
  decode (.stepsel 0b111 false) = .ok .reset ∧ decode (.stepsel 0b000 true) = .ok .hold ∧
  decode (.stepsel 0b011 true) = .ok (.tick true) ∧ decode (.stepsel 0b001 false) = .ok .consume ∧
  decode (.ssel 0b10010) = .ok .smpUp ∧ decode (.ssel 0b10101) = .ok .smpConfirm ∧
  decode (.ssel 0b11001) = .ok .smpHold ∧ decode (.ssel 0b01001) = .ok .smpDown ∧
  decode (.ssel 0b00011) = .ok .smpRelease ∧ decode (.ssel 0b00010) = .ok .smpIdle ∧
  decode (.asel 0b101) = .ok .accSat ∧ decode (.asel 0b011) = .ok .accPublish ∧
  decode (.cselCls 0b111) = .ok .clsLong ∧ decode (.cselCns 0b110) = .ok .cnsLongM2 ∧
  decode (.cselCns 0b100) = .error .cselWithoutMode ∧ decode (.psel 0b011) = .ok .phWrap ∧
  decode (.psel 0b101) = .ok .phMclr ∧ decode (.dsel 0b0110) = .ok .drvM1 ∧
  decode (.dsel 0b1011) = .ok .drvM2Toggle ∧ decode (.dsel 0b1100) = .ok .drvM3OffRun ∧
  decode (.dsel 0b0011) = .error .dselWithoutMode

/-! ### Steps -/

/-- A step runs the operation that the cycle's select value is decoded to, on the state with the
stimulus word taken; no register is changed by taking it. The schedule of stimulus words and the free
input behind it are the model's own (notes/assumptions/1.md and 2.md). -/
def Obligations.StepRunsTheDecodedOperation : Prop :=
  (∀ (s : State) (i : Instr), decode (stepWord s.stim s) = .ok i → step s = exec i s.advance) ∧
  (∀ (s : State) (w : Stim) (ws : List Stim), s.script = w :: ws →
    s.stim = w ∧ s.advance = s.withScript ws) ∧
  (∀ s : State, s.script = [] →
    s.stim = Config.freeStimulus s.freeCycles ∧
    s.advance = { s with freeCycles := s.freeCycles + 1 })

/-- R250, R129. Nothing stops: every operation, every clock cycle and every step answers a next state,
from every state, and no operation touches the stimulus schedule. R250 speaks of the step function and
R129 of states that meet the invariants. That `exec` of a sub-block's operation answers a next state
outside its operands too is the model's choice (notes/assumptions/5.md), as is what a step does from a
state outside the invariants (notes/assumptions/6.md). -/
def Obligations.NothingFaultsOrRefuses : Prop :=
  (∀ (i : Instr) (s : State), ∃ t, exec i s = .next t ∧ t.script = s.script ∧
    t.freeCycles = s.freeCycles) ∧
  (∀ (w : Stim) (s : State), ∃ t, clock w s = .next t) ∧
  (∀ s : State, ∃ t, step s = .next t)

/-- R121. Reset over tick over a pending event over HOLD. -/
def Obligations.ResetOverTickOverConsumeOverHold : Prop :=
  ∀ (w : Stim) (s : State),
    (Stim.rst w = true → clock w s = exec .reset s) ∧
    (Stim.rst w = false → Stim.tick w = true → clock w s = exec (.tick (Stim.btnRaw w)) s) ∧
    (Stim.rst w = false → Stim.tick w = false → s.releasePending = true →
      clock w s = exec .consume s) ∧
    (Stim.rst w = false → Stim.tick w = false → s.releasePending = false →
      clock w s = exec .hold s)

/-- R123. A HOLD step changes nothing, and any number of cycles without reset or tick changes nothing
while no event is pending; the phase counter performs PH_HOLD in each. -/
def Obligations.HoldChangesNothing : Prop :=
  (∀ s : State, exec .hold s = .next s) ∧
  (∀ (ws : List Stim) (s : State), s.releasePending = false → (∀ w ∈ ws, FreeCycle w) →
    runScript ws s = .next s ∧ ∀ w ∈ ws, selectStep w s = .hold ∧ decodePsel (psel w s) = .phHold)

/-- R126. A TICK step, the operations selected by the four vectors and committed together, is the
function `Handler(s, raw)`. -/
def Obligations.TickIsHandler : Prop :=
  ∀ (raw : Bool) (s : State), exec (.tick raw) s = .next (handler s raw)

/-- R127. A CONSUME step is the function `Consume(s)`. -/
def Obligations.ConsumeIsConsumeFunction : Prop :=
  ∀ s : State, exec .consume s = .next (consume s)

/-- R124. A TICK step selects one sampler, one accumulator, one driver and one phase-counter
operation, by the four select vectors of the state before the edge, and commits their assignments
together; the SMP and ACC choices are tied, and the DRV and PH choices are tied; `mode` and
`lamp_toggle` are never written and `release_pending` is at most set. -/
def Obligations.TickSelectsOneOperationOfEachBlock : Prop :=
  ∀ (raw : Bool) (s : State), ∃ a b c d t,
    a = decodeSsel (ssel (tickStim raw) s) ∧ b = decodeAsel (asel (tickStim raw) s) ∧
    decodeDsel (dsel s) = some c ∧ d = decodePsel (psel (tickStim raw) s) ∧
    a ∈ [Instr.smpUp, .smpConfirm, .smpHold, .smpDown, .smpRelease, .smpIdle] ∧
    b ∈ [Instr.accIdle, .accInc, .accSat, .accPublish] ∧
    c ∈ [Instr.drvM1, .drvM2Run, .drvM2Toggle, .drvM3OnRun, .drvM3OnEnd, .drvM3OffRun,
      .drvM3OffEnd] ∧
    d ∈ [Instr.phHold, .phInc, .phWrap] ∧
    (a = .smpHold ↔ b = .accInc ∨ b = .accSat) ∧ (a = .smpRelease ↔ b = .accPublish) ∧
    (c = .drvM1 ↔ d = .phHold) ∧
    (c = .drvM2Run ∨ c = .drvM3OnRun ∨ c = .drvM3OffRun ↔ d = .phInc) ∧
    (c = .drvM2Toggle ∨ c = .drvM3OnEnd ∨ c = .drvM3OffEnd ↔ d = .phWrap) ∧
    exec (.tick raw) s = .next t ∧ t = s.commit (gather [a, b, c, d] s) ∧
    t.mode = s.mode ∧ t.lampToggle = s.lampToggle ∧
    (s.releasePending = true → t.releasePending = true)

/-- R125. With an event pending, a CONSUME step selects one classifier, one mode-machine and one
phase-counter operation, by `csel` and `psel` of the state before the edge, and commits their
assignments together; CLS_LONG goes with a CNS_LONG operation and with PH_MCLR, CLS_SHORT with a
CNS_SHORT operation and PH_HOLD; the flag is cleared, the sampler's registers and `ev_duration` are
never written, and the strobes of the cycle say which it was. -/
def Obligations.ConsumeSelectsOneOperationOfEachBlock : Prop :=
  ∀ (w : Stim) (s : State), FreeCycle w → s.releasePending = true → ∃ a b c t,
    a = decodeCls (csel s) ∧ decodeCns (csel s) = some b ∧ c = decodePsel (psel w s) ∧
    ((a = .clsShort ∧ b ∈ [Instr.cnsShortM1, .cnsShortM2, .cnsShortM3] ∧ c = .phHold ∧
        evShort w s = true ∧ evLong w s = false ∧ modeEdge w s = false) ∨
      (a = .clsLong ∧ b ∈ [Instr.cnsLongM1, .cnsLongM2, .cnsLongM3] ∧ c = .phMclr ∧
        evShort w s = false ∧ evLong w s = true ∧ modeEdge w s = true)) ∧
    clock w s = .next t ∧ exec .consume s = .next t ∧ t = s.commit (gather [a, b, c] s) ∧
    t.releasePending = false ∧
    t.cnt = s.cnt ∧ t.pressed = s.pressed ∧ t.dur = s.dur ∧ t.evDuration = s.evDuration

/-- R10, R99. The operations of one step commit together: the order in which their assignments are
gathered makes no difference, in a TICK step and in a CONSUME step. -/
def Obligations.OperationsOfAStepCommitTogether : Prop :=
  (∀ (raw : Bool) (s : State) (ops : List Instr), ops.Perm (tickOps raw s) →
    s.commit (gather ops s) = s.commit (gather (tickOps raw s) s)) ∧
  (∀ (s : State) (ops : List Instr), s.releasePending = true → ops.Perm (consumeOps s) →
    s.commit (gather ops s) = s.commit (gather (consumeOps s) s))

/-- R37. Which operations assign which register; the CNS_LONG operations' own `phase <- 0` is the
clear that PH_MCLR carries out (R187, R189). -/
def Obligations.EachRegisterHasItsWriters : Prop :=
  ∀ (i : Instr) (s : State),
    ((opWrites i s).cnt.isSome ↔ i ∈ [Instr.smpUp, .smpConfirm, .smpDown]) ∧
    ((opWrites i s).pressed.isSome ↔ i ∈ [Instr.smpConfirm, .smpRelease]) ∧
    ((opWrites i s).dur.isSome ↔ i ∈ [Instr.accInc, .accPublish]) ∧
    ((opWrites i s).evDuration.isSome ↔ i ∈ [Instr.accPublish]) ∧
    ((opWrites i s).releasePending.isSome ↔ i ∈ [Instr.accPublish, .clsShort, .clsLong]) ∧
    ((opWrites i s).mode.isSome ↔ i ∈ [Instr.cnsLongM1, .cnsLongM2, .cnsLongM3]) ∧
    ((opWrites i s).lampToggle.isSome ↔ i ∈ [Instr.cnsShortM1, .cnsLongM3]) ∧
    ((opWrites i s).phase.isSome ↔
      i ∈ [Instr.phInc, .phWrap, .phMclr, .cnsLongM1, .cnsLongM2, .cnsLongM3]) ∧
    ((opWrites i s).lamp.isSome ↔
      i ∈ [Instr.drvM2Toggle, .drvM3OnEnd, .drvM3OffEnd, .cnsShortM1, .cnsLongM1, .cnsLongM2,
        .cnsLongM3])

/-- R128. When a tick with raw level `raw` is followed by at least one cycle without reset or tick,
the machine goes from `s` to `TickStep(s, raw)`, however many such cycles follow; iterated, a script
of ticks with one such cycle each runs as `TickStep` over the raw levels. -/
def Obligations.TickThenSlotIsTickStep : Prop :=
  (∀ (w : Stim) (ws : List Stim) (s : State), TickCycle w → ws ≠ [] → (∀ x ∈ ws, FreeCycle x) →
    runScript (w :: ws) s = .next (tickStep s (Stim.btnRaw w))) ∧
  (∀ (raws : List Bool) (s : State), runScript (scriptTicks raws) s = .next (ticks s raws))

/-- R82, R84, 93 U12. Inputs are ignored where the spec says so: `tick` and `btn_raw` under reset,
`btn_raw` in a cycle without a tick. -/
def Obligations.IgnoredInputsChangeNothing : Prop :=
  ∀ (w w' : Stim) (s : State),
    (Stim.rst w = true ∧ Stim.rst w' = true) ∨ (FreeCycle w ∧ FreeCycle w') →
    clock w s = clock w' s

/-- The registers a step leaves behind do not depend on where its stimulus word came from, and `k`
steps of the machine along a schedule are the run of the scheduled script. The schedule is the
model's own (notes/assumptions/1.md). -/
def Obligations.StepsFollowTheSchedule : Prop :=
  ∀ (ws rest : List Stim) (s : State), ∃ t,
    runScript ws (s.withScript rest) = .next t ∧
    Host.Core.run Sys2Proof.core ws.length (s.withScript (ws ++ rest)) = .next t

/-- Every operation of the map is performed: from any state, staged for the operation (the model's
own choice, notes/assumptions/4.md), the next step is that step or one that selects the operation. -/
def Obligations.StagedOperationIsPerformed : Prop :=
  ∀ (i : Instr) (s : State),
    (i = selectStep (s.staged i).stim (s.staged i) ∨
      i ∈ stepOps (selectStep (s.staged i).stim (s.staged i)) (s.staged i)) ∧
    ∃ t, step (s.staged i) = .next t

/-! ### debounce_sampler -/

/-- R143, R144, R145. The sampler on a pressed sample: below `MAX - 1` it counts up, at `MAX - 1` it
confirms, at `MAX` it holds. Each clause: the operation selected, the accumulator's beside it, and the
meaning on its operands with its frame. -/
def Obligations.SamplerOnPressedSample : Prop :=
  ∀ s : State,
    (s.cnt.val < 19 →
      decodeSsel (ssel (tickStim true) s) = .smpUp ∧
      decodeAsel (asel (tickStim true) s) = .accIdle ∧
      ∃ c : Cnt, c.val = s.cnt.val + 1 ∧ exec .smpUp s = .next { s with cnt := c }) ∧
    (s.cnt.val = 19 →
      decodeSsel (ssel (tickStim true) s) = .smpConfirm ∧
      decodeAsel (asel (tickStim true) s) = .accIdle ∧
      ∃ c : Cnt, c.val = 20 ∧ exec .smpConfirm s = .next { s with cnt := c, pressed := true }) ∧
    (s.cnt.val = 20 →
      decodeSsel (ssel (tickStim true) s) = .smpHold ∧
      (decodeAsel (asel (tickStim true) s) = .accInc ∨
        decodeAsel (asel (tickStim true) s) = .accSat) ∧
      exec .smpHold s = .next s)

/-- R146, R147, R148. The sampler on a released sample: above 0 it counts down, at 0 with `pressed`
set it releases, at 0 with `pressed` clear it does nothing. The TICK step with the release emits the
event and clears `pressed` and `dur`, and the next released sample is SMP_IDLE. -/
def Obligations.SamplerOnReleasedSample : Prop :=
  ∀ s : State,
    (0 < s.cnt.val →
      decodeSsel (ssel (tickStim false) s) = .smpDown ∧
      decodeAsel (asel (tickStim false) s) = .accIdle ∧
      ∃ c : Cnt, c.val + 1 = s.cnt.val ∧ exec .smpDown s = .next { s with cnt := c }) ∧
    (s.cnt.val = 0 → s.pressed = true →
      decodeSsel (ssel (tickStim false) s) = .smpRelease ∧
      decodeAsel (asel (tickStim false) s) = .accPublish ∧
      exec .smpRelease s = .next { s with pressed := false } ∧
      ∃ t, exec (.tick false) s = .next t ∧ t.cnt = s.cnt ∧
        t.releasePending = true ∧ t.evDuration = s.dur ∧ t.pressed = false ∧ t.dur = 0 ∧
        .smpIdle ∈ tickOps false t) ∧
    (s.cnt.val = 0 → s.pressed = false →
      decodeSsel (ssel (tickStim false) s) = .smpIdle ∧
      decodeAsel (asel (tickStim false) s) = .accIdle ∧
      exec .smpIdle s = .next s)

/-- R150. The counter is a clamped integrator and the flag has hysteresis. -/
def Obligations.CounterIsClampedIntegrator : Prop :=
  ∀ (raw : Bool) (s : State), ∃ t, exec (.tick raw) s = .next t ∧
    t.cnt.val = (if raw then min (s.cnt.val + 1) 20 else s.cnt.val - 1) ∧
    (s.pressed = false → t.pressed = true →
      s.cnt.val < 20 ∧ t.cnt.val = 20) ∧
    (s.pressed = true → t.pressed = false → raw = false ∧ s.cnt.val = 0)

/-- R151. A clean press of N samples, N at least 20, from an idle sampler (with `dur = 0`, as R42 has
it): confirmed at the 20th sample, `dur = N - 20` capped, 20 SMP_DOWN ticks, and the release event in
the 21st released tick, carrying N - 20 capped; long exactly when N is 3020 or more. -/
def Obligations.CleanPressPublishesItsLengthLess20 : Prop :=
  ∀ (s : State) (n : Nat), SamplerIdle s → s.dur = 0 → 20 ≤ n →
    (∀ k, k < 19 → .smpUp ∈ tickOps true (ticks s (List.replicate k true)) ∧
      (ticks s (List.replicate k true)).pressed = false) ∧
    .smpConfirm ∈ tickOps true (ticks s (List.replicate 19 true)) ∧
    (∀ k, 20 ≤ k → k ≤ n →
      .smpHold ∈ tickOps true (ticks s (List.replicate k true)) ∧
      (ticks s (List.replicate k true)).pressed = true ∧
      (ticks s (List.replicate k true)).dur.toNat = min (k - 20) 65535) ∧
    (∀ j, j < 20 →
      .smpDown ∈ tickOps false (ticks s (List.replicate n true ++ List.replicate j false))) ∧
    (∃ t, .smpRelease ∈ tickOps false (ticks s (List.replicate n true ++ List.replicate 20 false)) ∧
      exec (.tick false) (ticks s (List.replicate n true ++ List.replicate 20 false)) = .next t ∧
      t.releasePending = true ∧ t.pressed = false ∧
      t.evDuration.toNat = min (n - 20) 65535 ∧
      (t.isLong = true ↔ 3020 ≤ n))

/-- R152. A pulse of 1 to 19 samples from an idle sampler: the counter climbs to N and falls back to
0, `pressed` never becomes 1 and no event is emitted, however long the button stays released. -/
def Obligations.ShortPulseIsAbsorbed : Prop :=
  ∀ (s : State) (n : Nat), SamplerIdle s → 1 ≤ n → n ≤ 19 →
    (∀ k, k < n → .smpUp ∈ tickOps true (ticks s (List.replicate k true))) ∧
    (∀ k, k ≤ n → (ticks s (List.replicate k true)).cnt.val = k ∧
      (ticks s (List.replicate k true)).pressed = false) ∧
    (∀ j, j < n →
      .smpDown ∈ tickOps false (ticks s (List.replicate n true ++ List.replicate j false))) ∧
    (∀ j, (ticks s (List.replicate n true ++ List.replicate j false)).cnt.val = n - j ∧
      (ticks s (List.replicate n true ++ List.replicate j false)).pressed = false ∧
      (ticks s (List.replicate n true ++ List.replicate j false)).evDuration = s.evDuration ∧
      (ticks s (List.replicate n true ++ List.replicate j false)).releasePending = false)

/-- R153, exact form (90_conflicts.md C9). From an idle sampler, any sequence of raw levels with fewer
than 20 pressed samples emits no event: the button is never taken for held, nothing is published, and
the mode, and the level short presses toggle, stay. -/
def Obligations.FewerThan20SamplesEmitNoEvent : Prop :=
  ∀ (s : State) (raws : List Bool), SamplerIdle s → s.releasePending = false →
    raws.count true < 20 →
    (ticks s raws).pressed = false ∧ (ticks s raws).releasePending = false ∧
    (ticks s raws).evDuration = s.evDuration ∧ (ticks s raws).mode = s.mode ∧
    (ticks s raws).lampToggle = s.lampToggle ∧
    (∀ raw, .smpRelease ∉ tickOps raw (ticks s raws))

/-- R154. A run of `g` released samples, 1 to 19, inside a hold, then `g` pressed ones: the press goes
on, no event, and `dur` is what it was; with 20 released samples the counter is at 0 and the next
released sample is SMP_RELEASE. -/
def Obligations.ReleasedGlitchInsideAHold : Prop :=
  ∀ (s : State), s.cnt.val = 20 → s.pressed = true →
    (∀ g, 1 ≤ g → g ≤ 19 →
      (∀ j, j ≤ g → (ticks s (List.replicate j false)).cnt.val = 20 - j ∧
        (ticks s (List.replicate j false)).pressed = true) ∧
      (∀ j, j ≤ g →
        (ticks s (List.replicate g false ++ List.replicate j true)).cnt.val = 20 - g + j ∧
        (ticks s (List.replicate g false ++ List.replicate j true)).pressed = true ∧
        (ticks s (List.replicate g false ++ List.replicate j true)).dur = s.dur ∧
        (ticks s (List.replicate g false ++ List.replicate j true)).releasePending = false ∧
        (ticks s (List.replicate g false ++ List.replicate j true)).evDuration = s.evDuration) ∧
      (∀ j, j < g - 1 → .smpUp ∈ tickOps true
        (ticks s (List.replicate g false ++ List.replicate j true))) ∧
      .smpConfirm ∈ tickOps true
        (ticks s (List.replicate g false ++ List.replicate (g - 1) true)) ∧
      .smpHold ∈ tickOps true
        (ticks s (List.replicate g false ++ List.replicate g true))) ∧
    (ticks s (List.replicate 20 false)).cnt.val = 0 ∧
    .smpRelease ∈ tickOps false (ticks s (List.replicate 20 false))

/-- R156. After a release event the sampler is idle; the next SMP_CONFIRM is at least 20 ticks away
and the next SMP_RELEASE at least 41, and it is reached in 41, with duration 0, by 20 pressed and 21
released samples. -/
def Obligations.ReleaseEventsAre41TicksApart : Prop :=
  (∀ s : State, .smpRelease ∈ tickOps false s → SamplerIdle (tickStep s false)) ∧
  (∀ (s : State) (raws : List Bool), SamplerIdle s →
    .smpConfirm ∈ tickOps true (ticks s raws) → 19 ≤ raws.length) ∧
  (∀ (s : State) (raws : List Bool), SamplerIdle s →
    .smpRelease ∈ tickOps false (ticks s raws) → 40 ≤ raws.length) ∧
  (∀ s : State, SamplerIdle s → s.dur = 0 →
    .smpRelease ∈ tickOps false (ticks s (List.replicate 20 true ++ List.replicate 20 false)) ∧
    (ticks s (List.replicate 20 true ++ List.replicate 20 false)).dur = 0)

/-! ### press_classifier -/

/-- R171, R172, R173. The accumulator's operations that publish nothing: when each is selected, and
its meaning with its frame. -/
def Obligations.AccumulatorCountsHeldTicks : Prop :=
  ∀ (raw : Bool) (s : State),
    (accStb (tickStim raw) s = false → releaseStb (tickStim raw) s = false →
      decodeAsel (asel (tickStim raw) s) = .accIdle ∧ exec .accIdle s = .next s) ∧
    (accStb (tickStim raw) s = true → s.dur.toNat < 65535 →
      decodeAsel (asel (tickStim raw) s) = .accInc ∧
      ∃ d : Duration, d.toNat = s.dur.toNat + 1 ∧ exec .accInc s = .next { s with dur := d }) ∧
    (accStb (tickStim raw) s = true → s.dur.toNat = 65535 →
      decodeAsel (asel (tickStim raw) s) = .accSat ∧ exec .accSat s = .next s)

/-- R174, R175. On `release_stb` the accumulator publishes: duration, flag and clear at one edge, also
when an event is already pending, whose duration is then lost. -/
def Obligations.PublishOverwritesAnUnconsumedEvent : Prop :=
  ∀ (raw : Bool) (s : State), releaseStb (tickStim raw) s = true →
    decodeAsel (asel (tickStim raw) s) = .accPublish ∧
    exec .accPublish s =
      .next { s with evDuration := s.dur, releasePending := true, dur := 0 } ∧
    ∃ t, exec (.tick raw) s = .next t ∧ t.evDuration = s.dur ∧ t.releasePending = true ∧
      t.dur = 0 ∧ t.pressed = false

/-- R132, R175, R255 (c). A tick outranks a pending event: the event waits, in the same mode and with
the same toggle level, and only a new release event changes its duration. -/
def Obligations.TickPostponesThePendingEvent : Prop :=
  ∀ (w : Stim) (s : State), TickCycle w → s.releasePending = true → ∃ t, clock w s = .next t ∧
    t.releasePending = true ∧ t.mode = s.mode ∧ t.lampToggle = s.lampToggle ∧
    t.evDuration = (if releaseStb w s then s.dur else s.evDuration)

/-- R176, R177, R178. Classification at 3000 ticks, and the two classifier operations, which clear the
flag and nothing else; the mode machine's operation of the same kind, and on a long press PH_MCLR, are
selected beside them. -/
def Obligations.ClassifierSplitsAt3000 : Prop :=
  ∀ (w : Stim) (s : State),
    (s.isLong = true ↔ 3000 ≤ s.evDuration.toNat) ∧
    (FreeCycle w → s.releasePending = true → s.evDuration.toNat < 3000 →
      decodeCls (csel s) = .clsShort ∧ evShort w s = true ∧ evLong w s = false ∧
      exec .clsShort s = .next { s with releasePending := false } ∧
      ∃ b ∈ [Instr.cnsShortM1, .cnsShortM2, .cnsShortM3], decodeCns (csel s) = some b) ∧
    (FreeCycle w → s.releasePending = true → 3000 ≤ s.evDuration.toNat →
      decodeCls (csel s) = .clsLong ∧ evLong w s = true ∧ modeEdge w s = true ∧
      evShort w s = false ∧ decodePsel (psel w s) = .phMclr ∧
      exec .clsLong s = .next { s with releasePending := false } ∧
      ∃ b ∈ [Instr.cnsLongM1, .cnsLongM2, .cnsLongM3], decodeCns (csel s) = some b)

/-- R183. A pending event is consumed in the first cycle without reset or tick, and then no CONSUME
step is selected until a new event is published. -/
def Obligations.EventIsConsumedOnce : Prop :=
  ∀ (w : Stim) (s : State), FreeCycle w → s.releasePending = true →
    selectStep w s = .consume ∧
    ∃ t, clock w s = .next t ∧ t.releasePending = false ∧
      (∀ w' : Stim, selectStep w' t ≠ .consume) ∧
      (∀ w' : Stim, evShort w' t = false ∧ evLong w' t = false)

/-- R83, R179, R294. The strobes: 1 only in a CONSUME cycle, never both, `mode_edge` equal to
`ev_long`; the other outputs are the registers. -/
def Obligations.StrobesMarkTheConsumeCycle : Prop :=
  ∀ (w : Stim) (s : State),
    ((evShort w s = true ∨ evLong w s = true) ↔ selectStep w s = .consume) ∧
    ¬(evShort w s = true ∧ evLong w s = true) ∧
    outputs w s =
      { lamp := s.lamp, mode := s.mode.bits, modeEdge := evLong w s, evShort := evShort w s,
        evLong := evLong w s, pressed := s.pressed, phase := s.phase }

/-! ### mode_fsm -/

/-- R188, R190, R192. The short-press rows of the transition table: when each is selected, and its
meaning with its frame. -/
def Obligations.ShortPressRows : Prop :=
  ∀ s : State, s.releasePending = true → s.isLong = false →
    (s.mode = .mode1 → decodeCns (csel s) = some .cnsShortM1 ∧
      exec .cnsShortM1 s = .next { s with lampToggle := !s.lampToggle, lamp := !s.lampToggle }) ∧
    (s.mode = .mode2 → decodeCns (csel s) = some .cnsShortM2 ∧ exec .cnsShortM2 s = .next s) ∧
    (s.mode = .mode3 → decodeCns (csel s) = some .cnsShortM3 ∧ exec .cnsShortM3 s = .next s)

/-- R189, R191, R193. The long-press rows of the transition table. -/
def Obligations.LongPressRows : Prop :=
  ∀ s : State, s.releasePending = true → s.isLong = true →
    (s.mode = .mode1 → decodeCns (csel s) = some .cnsLongM1 ∧
      exec .cnsLongM1 s = .next { s with mode := .mode2, phase := 0, lamp := false }) ∧
    (s.mode = .mode2 → decodeCns (csel s) = some .cnsLongM2 ∧
      exec .cnsLongM2 s = .next { s with mode := .mode3, phase := 0, lamp := true }) ∧
    (s.mode = .mode3 → decodeCns (csel s) = some .cnsLongM3 ∧
      exec .cnsLongM3 s =
        .next { s with mode := .mode1, phase := 0, lamp := true, lampToggle := true })

/-- R194. From boot, after `k` long-press events the mode is `(k mod 3) + 1`; from any state the mode
moves round the ring by the number of long-press events, however many short ones come between. -/
def Obligations.ModeCountsLongPressesModulo3 : Prop :=
  (∀ (ws : List Stim), (∀ w ∈ ws, Stim.rst w = false) →
    ∃ t, runScript ws State.reset = .next t ∧
      t.mode.toNat = longEvents ws State.reset % 3 + 1) ∧
  (∀ (ws : List Stim) (s : State), (∀ w ∈ ws, Stim.rst w = false) →
    ∃ t, runScript ws s = .next t ∧
      t.mode.toNat = (s.mode.toNat - 1 + longEvents ws s) % 3 + 1)

/-- R186, R195. Outside reset the mode changes only in the CONSUME step of a long press, to
`(current mod 3) + 1`, and the same edge clears the phase counter. -/
def Obligations.OnlyALongPressChangesTheMode : Prop :=
  ∀ (w : Stim) (s : State), Stim.rst w = false → ∃ t, clock w s = .next t ∧
    (evLong w s = true → t.mode.toNat = s.mode.toNat % 3 + 1 ∧ t.phase = 0) ∧
    (evLong w s = false → t.mode = s.mode)

/-- R197, R28. In MODE_2 and MODE_3 nothing but the return to MODE_1 writes `lamp_toggle`, and that
return sets it to ON; its value there affects nothing else, and a return to MODE_1 discards it. -/
def Obligations.LampToggleIsKeptOutsideMode1 : Prop :=
  (∀ (w : Stim) (s : State), Stim.rst w = false → s.mode ≠ .mode1 → ∃ t, clock w s = .next t ∧
    t.lampToggle = (if s.mode = .mode3 ∧ evLong w s = true then true else s.lampToggle)) ∧
  (∀ (w : Stim) (s : State) (level : Bool), s.mode ≠ .mode1 → ∃ t u, clock w s = .next t ∧
    clock w { s with lampToggle := level } = .next u ∧
    u = { t with lampToggle := u.lampToggle } ∧ (t.mode = .mode1 → u = t))

/-- R182, R151. A press whose duration has saturated still publishes a long press. -/
def Obligations.SaturatedPressStaysLong : Prop :=
  ∀ s : State, s.dur.toNat = 65535 → s.cnt.val = 0 → s.pressed = true →
    ∃ t, exec (.tick false) s = .next t ∧ t.evDuration.toNat = 65535 ∧ t.isLong = true

/-! ### pattern_phase_counter and blink_driver -/

/-- R211, R212, R213, R214. The phase counter's commands: when each is selected in a TICK or CONSUME
cycle, and its meaning with its frame. -/
def Obligations.PhaseCounterCommands : Prop :=
  ∀ (w : Stim) (s : State),
    (mclr w s = false → incEn w s = false →
      decodePsel (psel w s) = .phHold ∧ exec .phHold s = .next s) ∧
    (TickCycle w → s.mode = .mode1 → decodePsel (psel w s) = .phHold) ∧
    (FreeCycle w → s.releasePending = false → decodePsel (psel w s) = .phHold) ∧
    (FreeCycle w → s.releasePending = true → s.isLong = false →
      decodePsel (psel w s) = .phHold) ∧
    (TickCycle w → s.mode ≠ .mode1 → s.thrHit = false →
      decodePsel (psel w s) = .phInc ∧
      ∃ p : Phase, p.toNat = s.phase.toNat + 1 ∧ exec .phInc s = .next { s with phase := p }) ∧
    (TickCycle w → s.mode ≠ .mode1 → s.thrHit = true →
      decodePsel (psel w s) = .phWrap ∧ exec .phWrap s = .next { s with phase := 0 }) ∧
    (FreeCycle w → s.releasePending = true → s.isLong = true →
      decodePsel (psel w s) = .phMclr ∧ exec .phMclr s = .next { s with phase := 0 })

/-- R227, R228, R229. The driver in MODE_1 and MODE_2: when each operation is selected, the phase
command beside it, and its meaning with its frame. -/
def Obligations.DriverInModes1And2 : Prop :=
  ∀ (raw : Bool) (s : State),
    (s.mode = .mode1 →
      decodeDsel (dsel s) = some .drvM1 ∧ decodePsel (psel (tickStim raw) s) = .phHold ∧
      exec .drvM1 s = .next s) ∧
    (s.mode = .mode2 → s.phase.toNat + 1 < 50 →
      decodeDsel (dsel s) = some .drvM2Run ∧ decodePsel (psel (tickStim raw) s) = .phInc ∧
      exec .drvM2Run s = .next s) ∧
    (s.mode = .mode2 → 50 ≤ s.phase.toNat + 1 →
      decodeDsel (dsel s) = some .drvM2Toggle ∧ decodePsel (psel (tickStim raw) s) = .phWrap ∧
      exec .drvM2Toggle s = .next { s with lamp := !s.lamp })

/-- R230, R231, R232, R233. The driver in MODE_3. -/
def Obligations.DriverInMode3 : Prop :=
  ∀ (raw : Bool) (s : State), s.mode = .mode3 →
    (s.lamp = true → s.phase.toNat + 1 < 100 →
      decodeDsel (dsel s) = some .drvM3OnRun ∧ decodePsel (psel (tickStim raw) s) = .phInc ∧
      exec .drvM3OnRun s = .next s) ∧
    (s.lamp = true → 100 ≤ s.phase.toNat + 1 →
      decodeDsel (dsel s) = some .drvM3OnEnd ∧ decodePsel (psel (tickStim raw) s) = .phWrap ∧
      exec .drvM3OnEnd s = .next { s with lamp := false }) ∧
    (s.lamp = false → s.phase.toNat + 1 < 900 →
      decodeDsel (dsel s) = some .drvM3OffRun ∧ decodePsel (psel (tickStim raw) s) = .phInc ∧
      exec .drvM3OffRun s = .next s) ∧
    (s.lamp = false → 900 ≤ s.phase.toNat + 1 →
      decodeDsel (dsel s) = some .drvM3OffEnd ∧ decodePsel (psel (tickStim raw) s) = .phWrap ∧
      exec .drvM3OffEnd s = .next { s with lamp := true })

/-- R235. MODE_2 waveform: from the state a long press consumed in MODE_1 leaves, for as long as the
mode stays 2, the lamp is OFF for 50 ticks, ON for 50, and so on, and the phase counts within the
half period. -/
def Obligations.Mode2TogglesEvery50Ticks : Prop :=
  (∀ (w : Stim) (s : State), FreeCycle w → s.mode = .mode1 → s.releasePending = true →
    s.isLong = true → ∃ t, clock w s = .next t ∧ t.mode = .mode2 ∧ t.phase = 0 ∧ t.lamp = false) ∧
  (∀ (s : State) (raws : List Bool), s.mode = .mode2 → s.phase = 0 → s.lamp = false →
    (∀ k, k ≤ raws.length → (ticks s (raws.take k)).mode = .mode2) →
    (ticks s raws).lamp = decide (raws.length / 50 % 2 = 1) ∧
    (ticks s raws).phase.toNat = raws.length % 50)

/-- R236. MODE_3 waveform: from the state a long press consumed in MODE_2 leaves, for as long as the
mode stays 3, the lamp is ON for 100 ticks and OFF for 900, with period 1000. -/
def Obligations.Mode3FlashesOn100Off900 : Prop :=
  (∀ (w : Stim) (s : State), FreeCycle w → s.mode = .mode2 → s.releasePending = true →
    s.isLong = true → ∃ t, clock w s = .next t ∧ t.mode = .mode3 ∧ t.phase = 0 ∧ t.lamp = true) ∧
  (∀ (s : State) (raws : List Bool), s.mode = .mode3 → s.phase = 0 → s.lamp = true →
    (∀ k, k ≤ raws.length → (ticks s (raws.take k)).mode = .mode3) →
    (ticks s raws).lamp = decide (raws.length % 1000 < 100) ∧
    (ticks s raws).phase.toNat =
      if raws.length % 1000 < 100 then raws.length % 1000 else raws.length % 1000 - 100)

/-- R239. The driver never reads the button, the sampler, `dur` or the handoff word: two states that
agree on mode, lamp and phase select the same driver operation, with the same assignments. Over any
two scripts with the same number of ticks, with any raw levels and any cycles between the ticks, they
go on agreeing, whatever else they hold, as long as no cycle resets or consumes a long press or, in
MODE_1, any press. -/
def Obligations.PatternIgnoresTheButton : Prop :=
  (∀ s s' : State, SamePattern s s' → decodeDsel (dsel s) = decodeDsel (dsel s') ∧
    ∀ i, decodeDsel (dsel s) = some i → opWrites i s = opWrites i s') ∧
  (∀ (ws ws' : List Stim) (s s' : State), ws.countP Stim.tick = ws'.countP Stim.tick →
    patternUndisturbed ws s = true → patternUndisturbed ws' s' = true → SamePattern s s' →
    ∃ t t', runScript ws s = .next t ∧ runScript ws' s' = .next t' ∧ SamePattern t t')

/-- R255 (f). When a pattern wrap and a long release event fall in one tick, the transition's values
stand after the tick-level step: the phase is 0 and the lamp is at the new mode's starting level. -/
def Obligations.TransitionOverridesAWrap : Prop :=
  ∀ s : State, s.cnt.val = 0 → s.pressed = true → 3000 ≤ s.dur.toNat → s.thrHit = true →
    (tickStep s false).mode.toNat = s.mode.toNat % 3 + 1 ∧ (tickStep s false).phase = 0 ∧
    (tickStep s false).lamp = true

/-! ### Hazards, state vector, parameters -/

/-- R48. Along a script that keeps the tick spacing of R290, from a state with no event pending, no
event is pending in a cycle with `tick = 1`; two adjacent ticks can find one pending. -/
def Obligations.SpacedTicksNeverFindAnEventPending : Prop :=
  (∀ (ws : List Stim) (w : Stim) (s : State), s.releasePending = false →
    spaced (ws ++ [w]) = true → Stim.tick w = true →
    ∃ t, runScript ws s = .next t ∧ t.releasePending = false) ∧
  (∃ (w w' : Stim) (s t : State), RegInv s ∧ s.releasePending = false ∧
    TickCycle w ∧ TickCycle w' ∧ clock w s = .next t ∧ t.releasePending = true)

/-- R96. The 53-bit state vector holds every register: states with the same vector have the same nine
registers; the reset state's vector has exactly the bits of `mode = 1`, `lamp_toggle` and `lamp`. -/
def Obligations.StateVectorHoldsEveryRegister : Prop :=
  (∀ s t : State, s.vector = t.vector → SameRegisters s t) ∧
  State.reset.vector = BitVec.ofNat 53 (2 ^ 12 + 2 ^ 11 + 1)

/-- R6, R7, R8. The constants have the spec's values, the types of the registers have the widths of R7
(`cnt` and `mode` cut down to their legal values, notes/assumptions/6.md), `TICK_DIV` is computed from
the open `CLK_HZ`, and the constraints between parameters that every rule assumes are met. That the
constants are fixed is the model's choice (notes/assumptions/10.md), and so is that `TICK_DIV` is
rounded down where `CLK_HZ` is no multiple of `TICK_HZ` (notes/assumptions/12.md). -/
def Obligations.ParametersMeetTheirConstraints : Prop :=
  (Config.TICK_HZ = 1000 ∧ Config.DEBOUNCE_TICKS = 20 ∧ Config.LONG_PRESS_TICKS = 3000 ∧
    Config.BLINK_HALF_PERIOD = 50 ∧ Config.ON_TIME = 100 ∧ Config.OFF_TIME = 900) ∧
  (Config.DUR_MAX = 65535 ∧ Config.CNT_W = 5 ∧ Config.DUR_W = 16 ∧ Config.PHASE_W = 10 ∧
    Config.MODE_W = 2 ∧ Config.SYNC_STAGES = 2 ∧
    ∀ clkHz : Nat, Config.tickDiv clkHz = clkHz / Config.TICK_HZ) ∧
  ((∀ n : Nat, (∃ c : Cnt, c.val = n) ↔ n ≤ Config.DEBOUNCE_TICKS) ∧
    (∀ n : Nat, (∃ d : Duration, d.toNat = n) ↔ n < 2 ^ Config.DUR_W) ∧
    (∀ n : Nat, (∃ p : Phase, p.toNat = n) ↔ n < 2 ^ Config.PHASE_W) ∧
    (∀ n : Nat, (∃ m : Mode, m.toNat = n) ↔ 1 ≤ n ∧ n < 2 ^ Config.MODE_W)) ∧
  1 ≤ Config.DEBOUNCE_TICKS ∧ Config.DEBOUNCE_TICKS < 2 ^ Config.CNT_W ∧
  Config.LONG_PRESS_TICKS ≤ Config.DUR_MAX ∧ Config.DUR_MAX < 2 ^ Config.DUR_W ∧
  (1 ≤ Config.BLINK_HALF_PERIOD ∧ 1 ≤ Config.ON_TIME ∧ 1 ≤ Config.OFF_TIME) ∧
  (Config.BLINK_HALF_PERIOD < 2 ^ Config.PHASE_W ∧ Config.ON_TIME < 2 ^ Config.PHASE_W ∧
    Config.OFF_TIME < 2 ^ Config.PHASE_W)

/-! ### Boundary wrapper -/

/-- R262, R290. The reference tick generator with `TICK_DIV` at least 2, its prescaler below `TICK_DIV`,
never breaks the tick spacing, whatever the reset line and the button pin do. The generator is a
presumed construction, which the spec gives from general knowledge (notes/assumptions/7.md). -/
def Obligations.TickGeneratorKeepsTheSpacing : Prop :=
  ∀ (tickDiv : Nat) (pins : List (Bool × Bool)) (w : Wrapper), 2 ≤ tickDiv → w.divCnt < tickDiv →
    spaced (w.script tickDiv pins) = true

/-- R262. From a cleared prescaler and without reset, the strobe of the reference generator with
`TICK_DIV` at least 2 is 1 in every `TICK_DIV`-th cycle and in no other. The generator is a presumed
construction, which the spec gives from general knowledge (notes/assumptions/7.md). -/
def Obligations.TickGeneratorPeriod : Prop :=
  ∀ (tickDiv : Nat) (pins : List (Bool × Bool)) (w : Wrapper) (k : Nat), 2 ≤ tickDiv →
    w.divCnt = 0 → (∀ p ∈ pins, p.1 = false) →
    ∀ x, (w.script tickDiv pins)[k]? = some x →
      (Stim.tick x = true ↔ (k + 1) % tickDiv = 0)

/-- R264, R265. The synchroniser delays the inverted pin level by two clock cycles, whatever the
prescaler and the reset line do; the lamp pin is the inverse of the lamp register, low after reset.
The synchroniser of two flip-flops is a presumed construction, which the spec gives from general
knowledge (notes/assumptions/7.md). -/
def Obligations.PinsAreInvertedAndSynchronised : Prop :=
  (∀ (tickDiv : Nat) (r1 r2 b1 b2 : Bool) (w : Wrapper),
    ((w.next tickDiv r1 b1).next tickDiv r2 b2).btnRaw = !b1) ∧
  (∀ s : State, lampN s = !s.lamp) ∧ lampN State.reset = false

/-- R36, R262, R264. A board's clock cycle is the core's clock cycle on the wrapper's stimulus word, and
the wrapper moves on by itself. The board, with the wrapper as a layer beside the core, is the model's
own choice, and the generator and synchroniser in it are presumed constructions, which the spec gives
from general knowledge (notes/assumptions/7.md). -/
def Obligations.BoardCycleIsTheCoreCycle : Prop :=
  ∀ (tickDiv : Nat) (rst btnN : Bool) (b : Board), ∃ t,
    clock (b.wrapper.stim tickDiv rst) b.core = .next t ∧
    b.clock tickDiv rst btnN = .next { core := t, wrapper := b.wrapper.next tickDiv rst btnN } ∧
    Stim.rst (b.wrapper.stim tickDiv rst) = rst ∧
    Stim.tick (b.wrapper.stim tickDiv rst) = decide (b.wrapper.divCnt + 1 = tickDiv) ∧
    Stim.btnRaw (b.wrapper.stim tickDiv rst) = !b.wrapper.sync2
end

