-- ==== Sys2Proof/Laws/State.lean ====
section
/-!
SUPPORT. Laws.State: what each update of the state does to each field, true by rfl. The updates are
`State.commit` (the registers), `State.advance` and `State.withScript` (the stimulus schedule).
-/

namespace Sys2Proof.Machine

variable (s : State) (w u v : Writes)

@[simp] theorem State.commit_cnt : (s.commit w).cnt = w.cnt.getD s.cnt := rfl
@[simp] theorem State.commit_pressed : (s.commit w).pressed = w.pressed.getD s.pressed := rfl
@[simp] theorem State.commit_dur : (s.commit w).dur = w.dur.getD s.dur := rfl
@[simp] theorem State.commit_releasePending :
    (s.commit w).releasePending = w.releasePending.getD s.releasePending := rfl
@[simp] theorem State.commit_evDuration :
    (s.commit w).evDuration = w.evDuration.getD s.evDuration := rfl
@[simp] theorem State.commit_mode : (s.commit w).mode = w.mode.getD s.mode := rfl
@[simp] theorem State.commit_lampToggle :
    (s.commit w).lampToggle = w.lampToggle.getD s.lampToggle := rfl
@[simp] theorem State.commit_phase : (s.commit w).phase = w.phase.getD s.phase := rfl
@[simp] theorem State.commit_lamp : (s.commit w).lamp = w.lamp.getD s.lamp := rfl
@[simp] theorem State.commit_script : (s.commit w).script = s.script := rfl
@[simp] theorem State.commit_freeCycles : (s.commit w).freeCycles = s.freeCycles := rfl

/-- An edge at which nothing is assigned changes nothing. -/
@[simp] theorem State.commit_empty : s.commit {} = s := rfl

@[simp] theorem Writes.merge_cnt : (u.merge v).cnt = u.cnt.or v.cnt := rfl
@[simp] theorem Writes.merge_pressed : (u.merge v).pressed = u.pressed.or v.pressed := rfl
@[simp] theorem Writes.merge_dur : (u.merge v).dur = u.dur.or v.dur := rfl
@[simp] theorem Writes.merge_releasePending :
    (u.merge v).releasePending = u.releasePending.or v.releasePending := rfl
@[simp] theorem Writes.merge_evDuration : (u.merge v).evDuration = u.evDuration.or v.evDuration := rfl
@[simp] theorem Writes.merge_mode : (u.merge v).mode = u.mode.or v.mode := rfl
@[simp] theorem Writes.merge_lampToggle : (u.merge v).lampToggle = u.lampToggle.or v.lampToggle := rfl
@[simp] theorem Writes.merge_phase : (u.merge v).phase = u.phase.or v.phase := rfl
@[simp] theorem Writes.merge_lamp : (u.merge v).lamp = u.lamp.or v.lamp := rfl

/-- Assignments of nothing change no other assignments. -/
@[simp] theorem Writes.empty_merge : Writes.merge {} v = v := by simp [Writes.merge]

@[simp] theorem Writes.merge_empty : u.merge {} = u := by simp [Writes.merge]

@[simp] theorem State.advance_cnt : s.advance.cnt = s.cnt := by unfold State.advance; split <;> rfl
@[simp] theorem State.advance_pressed : s.advance.pressed = s.pressed := by
  unfold State.advance; split <;> rfl
@[simp] theorem State.advance_dur : s.advance.dur = s.dur := by unfold State.advance; split <;> rfl
@[simp] theorem State.advance_releasePending : s.advance.releasePending = s.releasePending := by
  unfold State.advance; split <;> rfl
@[simp] theorem State.advance_evDuration : s.advance.evDuration = s.evDuration := by
  unfold State.advance; split <;> rfl
@[simp] theorem State.advance_mode : s.advance.mode = s.mode := by unfold State.advance; split <;> rfl
@[simp] theorem State.advance_lampToggle : s.advance.lampToggle = s.lampToggle := by
  unfold State.advance; split <;> rfl
@[simp] theorem State.advance_phase : s.advance.phase = s.phase := by
  unfold State.advance; split <;> rfl
@[simp] theorem State.advance_lamp : s.advance.lamp = s.lamp := by unfold State.advance; split <;> rfl

variable (ws : List Stim)

@[simp] theorem State.withScript_cnt : (s.withScript ws).cnt = s.cnt := rfl
@[simp] theorem State.withScript_pressed : (s.withScript ws).pressed = s.pressed := rfl
@[simp] theorem State.withScript_dur : (s.withScript ws).dur = s.dur := rfl
@[simp] theorem State.withScript_releasePending : (s.withScript ws).releasePending = s.releasePending := rfl
@[simp] theorem State.withScript_evDuration : (s.withScript ws).evDuration = s.evDuration := rfl
@[simp] theorem State.withScript_mode : (s.withScript ws).mode = s.mode := rfl
@[simp] theorem State.withScript_lampToggle : (s.withScript ws).lampToggle = s.lampToggle := rfl
@[simp] theorem State.withScript_phase : (s.withScript ws).phase = s.phase := rfl
@[simp] theorem State.withScript_lamp : (s.withScript ws).lamp = s.lamp := rfl
@[simp] theorem State.withScript_freeCycles : (s.withScript ws).freeCycles = s.freeCycles := rfl
@[simp] theorem State.withScript_script : (s.withScript ws).script = ws := rfl

end Sys2Proof.Machine
end

