-- ==== Sys2Proof/Laws/Ops.lean ====
section
/-!
SUPPORT. Laws.Ops: one lemma per shared operation, in the terms of Nat and Prop that proofs use:
the arithmetic of Ops, the comparisons of Flags and the fields of a stimulus word.
-/

namespace Sys2Proof.Machine

@[simp] theorem cntUp_val (c : Cnt) : (cntUp c).val = min (c.val + 1) 20 := by
  unfold cntUp
  split
  · change c.val + 1 = _
    omega
  · omega

@[simp] theorem cntDown_val (c : Cnt) : (cntDown c).val = c.val - 1 := rfl

@[simp] theorem cntMaxValue_val : cntMaxValue.val = 20 := rfl

@[simp] theorem durMaxValue_toNat : durMaxValue.toNat = 65535 := rfl

theorem satinc_toNat (d : Duration) : (satinc d durMaxValue).toNat = min (d.toNat + 1) 65535 := by
  have hd : d.toNat < 65536 := d.isLt
  unfold satinc
  split <;> rename_i h <;> simp only [BitVec.lt_def, BitVec.toNat_add, durMaxValue_toNat] at *
  · simp; omega
  · omega

theorem cntMax_iff (s : State) : s.cntMax = true ↔ s.cnt.val = 20 := by simp [State.cntMax]

theorem cntPre_iff (s : State) : s.cntPre = true ↔ s.cnt.val = 19 := by simp [State.cntPre]

theorem cntZero_iff (s : State) : s.cntZero = true ↔ s.cnt.val = 0 := by simp [State.cntZero]

theorem durMax_iff (s : State) : s.durMax = true ↔ s.dur.toNat = 65535 := by
  simp [State.durMax, ← BitVec.toNat_inj]

theorem isLong_iff (s : State) : s.isLong = true ↔ 3000 ≤ s.evDuration.toNat := by
  simp [State.isLong, BitVec.ule]

theorem phaseNext_toNat (s : State) : s.phaseNext.toNat = s.phase.toNat + 1 := by
  have hp : s.phase.toNat < 1024 := s.phase.isLt
  simp [State.phaseNext, BitVec.toNat_add]
  omega

/-- `thr_hit` in MODE_1. -/
theorem thrHit_mode1 {s : State} (h : s.mode = .mode1) : s.thrHit = false := by
  simp [State.thrHit, State.thr, h]

/-- `thr_hit` in MODE_2. -/
theorem thrHit_mode2 {s : State} (h : s.mode = .mode2) :
    s.thrHit = true ↔ 50 ≤ s.phase.toNat + 1 := by
  simp [State.thrHit, State.thr, h, BitVec.ule, phaseNext_toNat]

/-- `thr_hit` in MODE_3 with the lamp ON. -/
theorem thrHit_mode3_on {s : State} (h : s.mode = .mode3) (hl : s.lamp = true) :
    s.thrHit = true ↔ 100 ≤ s.phase.toNat + 1 := by
  simp [State.thrHit, State.thr, h, hl, BitVec.ule, phaseNext_toNat]

/-- `thr_hit` in MODE_3 with the lamp OFF. -/
theorem thrHit_mode3_off {s : State} (h : s.mode = .mode3) (hl : s.lamp = false) :
    s.thrHit = true ↔ 900 ≤ s.phase.toNat + 1 := by
  simp [State.thrHit, State.thr, h, hl, BitVec.ule, phaseNext_toNat]

@[simp] theorem tickStim_rst (raw : Bool) : Stim.rst (tickStim raw) = false := by
  cases raw <;> decide

@[simp] theorem tickStim_tick (raw : Bool) : Stim.tick (tickStim raw) = true := by
  cases raw <;> decide

@[simp] theorem tickStim_btnRaw (raw : Bool) : Stim.btnRaw (tickStim raw) = raw := by
  cases raw <;> decide

@[simp] theorem idleStim_rst : Stim.rst idleStim = false := by decide

@[simp] theorem idleStim_tick : Stim.tick idleStim = false := by decide

/-- A stimulus word in a TICK cycle is the tick word of its level. -/
theorem eq_tickStim {w : Stim} (hr : Stim.rst w = false) (ht : Stim.tick w = true) :
    w = tickStim (Stim.btnRaw w) := by
  revert w; decide

end Sys2Proof.Machine
end

