-- ==== Sys2Proof/Laws/PerInstr.lean ====
section
/-!
SUPPORT. Laws.PerInstr: the family CanonicalWord. The word the encoder gives an operation fits that
operation's own pattern and sets no bit the pattern leaves open (30_encoding.md rule R99).
-/

namespace Sys2Proof.Laws.CanonicalWord

/-- The operation is well formed; its canonical word fits its pattern and has every `x` bit at 0. -/
def Statement (i : Instr) : Prop :=
  i.wellFormed = true ∧ (encode i).fitsPattern i = true ∧ (encode i).value &&& encodingMask i = (encode i).value

theorem reset : Statement .reset := ⟨rfl, by decide, by decide⟩
theorem hold : Statement .hold := ⟨rfl, by decide, by decide⟩
theorem tick (btnRaw : Bool) : Statement (.tick btnRaw) := by
  cases btnRaw <;> exact ⟨rfl, by decide, by decide⟩
theorem consume : Statement .consume := ⟨rfl, by decide, by decide⟩
theorem smpUp : Statement .smpUp := ⟨rfl, by decide, by decide⟩
theorem smpConfirm : Statement .smpConfirm := ⟨rfl, by decide, by decide⟩
theorem smpHold : Statement .smpHold := ⟨rfl, by decide, by decide⟩
theorem smpDown : Statement .smpDown := ⟨rfl, by decide, by decide⟩
theorem smpRelease : Statement .smpRelease := ⟨rfl, by decide, by decide⟩
theorem smpIdle : Statement .smpIdle := ⟨rfl, by decide, by decide⟩
theorem accIdle : Statement .accIdle := ⟨rfl, by decide, by decide⟩
theorem accInc : Statement .accInc := ⟨rfl, by decide, by decide⟩
theorem accSat : Statement .accSat := ⟨rfl, by decide, by decide⟩
theorem accPublish : Statement .accPublish := ⟨rfl, by decide, by decide⟩
theorem clsShort : Statement .clsShort := ⟨rfl, by decide, by decide⟩
theorem clsLong : Statement .clsLong := ⟨rfl, by decide, by decide⟩
theorem cnsShortM1 : Statement .cnsShortM1 := ⟨rfl, by decide, by decide⟩
theorem cnsLongM1 : Statement .cnsLongM1 := ⟨rfl, by decide, by decide⟩
theorem cnsShortM2 : Statement .cnsShortM2 := ⟨rfl, by decide, by decide⟩
theorem cnsLongM2 : Statement .cnsLongM2 := ⟨rfl, by decide, by decide⟩
theorem cnsShortM3 : Statement .cnsShortM3 := ⟨rfl, by decide, by decide⟩
theorem cnsLongM3 : Statement .cnsLongM3 := ⟨rfl, by decide, by decide⟩
theorem phHold : Statement .phHold := ⟨rfl, by decide, by decide⟩
theorem phInc : Statement .phInc := ⟨rfl, by decide, by decide⟩
theorem phWrap : Statement .phWrap := ⟨rfl, by decide, by decide⟩
theorem phMclr : Statement .phMclr := ⟨rfl, by decide, by decide⟩
theorem drvM1 : Statement .drvM1 := ⟨rfl, by decide, by decide⟩
theorem drvM2Run : Statement .drvM2Run := ⟨rfl, by decide, by decide⟩
theorem drvM2Toggle : Statement .drvM2Toggle := ⟨rfl, by decide, by decide⟩
theorem drvM3OnRun : Statement .drvM3OnRun := ⟨rfl, by decide, by decide⟩
theorem drvM3OnEnd : Statement .drvM3OnEnd := ⟨rfl, by decide, by decide⟩
theorem drvM3OffRun : Statement .drvM3OffRun := ⟨rfl, by decide, by decide⟩
theorem drvM3OffEnd : Statement .drvM3OffEnd := ⟨rfl, by decide, by decide⟩

end Sys2Proof.Laws.CanonicalWord
end

