-- ==== Sys2Proof/Laws/Select.lean ====
section
/-!
SUPPORT. Laws.Select: which operation each select vector chooses, as a case split on the registers.
Proofs about TICK and CONSUME cite these and never unfold the vectors or the decoder.
-/

namespace Sys2Proof.Machine

/-- The sampler's case of a raw level (R142). -/
def smpCase (raw : Bool) (s : State) : Instr :=
  if raw then
    if s.cnt.val = 20 then .smpHold
    else if s.cnt.val = 19 then .smpConfirm else .smpUp
  else if s.cnt.val = 0 then (if s.pressed then .smpRelease else .smpIdle) else .smpDown

/-- The accumulator's case beside it (R124). -/
def accCase (raw : Bool) (s : State) : Instr :=
  if raw then
    if s.cnt.val = 20 then
      (if s.dur.toNat = 65535 then .accSat else .accInc)
    else .accIdle
  else if s.cnt.val = 0 ∧ s.pressed = true then .accPublish else .accIdle

/-- The driver's case (R225). -/
def drvCase (s : State) : Instr :=
  match s.mode with
  | .mode1 => .drvM1
  | .mode2 => if s.thrHit then .drvM2Toggle else .drvM2Run
  | .mode3 =>
    if s.lamp then (if s.thrHit then .drvM3OnEnd else .drvM3OnRun)
    else (if s.thrHit then .drvM3OffEnd else .drvM3OffRun)

/-- The phase counter's case in a TICK step (R89). -/
def phCase (s : State) : Instr :=
  if s.mode = .mode1 then .phHold else if s.thrHit then .phWrap else .phInc

/-- The classifier's case (R88). -/
def clsCase (s : State) : Instr := if s.isLong then .clsLong else .clsShort

/-- The mode machine's case (R88). -/
def cnsCase (s : State) : Instr :=
  match s.mode with
  | .mode1 => if s.isLong then .cnsLongM1 else .cnsShortM1
  | .mode2 => if s.isLong then .cnsLongM2 else .cnsShortM2
  | .mode3 => if s.isLong then .cnsLongM3 else .cnsShortM3

/-- The sampler vector's patterns as nested tests of its bits; the three tests of `cnt` exclude each
other only in a vector that comes from a state. -/
theorem decodeSsel_bits (r m p z f : Bool) :
    decodeSsel (BitVec.ofBool r ++ BitVec.ofBool m ++ BitVec.ofBool p ++ BitVec.ofBool z ++
      BitVec.ofBool f) =
    if r then (if m then .smpHold else if p then .smpConfirm else .smpUp)
    else if z then (if f then .smpRelease else .smpIdle) else .smpDown := by
  revert r m p z f; decide

theorem decodeSsel_ssel (raw : Bool) (s : State) :
    decodeSsel (ssel (tickStim raw) s) = smpCase raw s := by
  simp only [ssel, decodeSsel_bits, tickStim_btnRaw, smpCase, cntMax_iff, cntPre_iff, cntZero_iff]

theorem decodeAsel_bits (a r m : Bool) :
    decodeAsel (BitVec.ofBool a ++ BitVec.ofBool r ++ BitVec.ofBool m) =
    if a then (if m then .accSat else .accInc) else if r then .accPublish else .accIdle := by
  revert a r m; decide

theorem decodeAsel_asel (raw : Bool) (s : State) :
    decodeAsel (asel (tickStim raw) s) = accCase raw s := by
  simp only [asel, decodeAsel_bits, accStb, releaseStb, tickFire, tickStim_btnRaw, tickStim_rst,
    tickStim_tick, accCase, Bool.and_eq_true, cntMax_iff, cntZero_iff, durMax_iff]
  cases raw <;> simp

theorem decodeDsel_dsel (s : State) : decodeDsel (dsel s) = some (drvCase s) := by
  unfold dsel drvCase
  cases s.mode <;> cases s.lamp <;> cases s.thrHit <;> rfl

theorem decodePsel_bits (m i w : Bool) :
    decodePsel (BitVec.ofBool m ++ BitVec.ofBool i ++ BitVec.ofBool w) =
    if m then .phMclr else if i then (if w then .phWrap else .phInc) else .phHold := by
  revert m i w; decide

theorem decodePsel_tick (raw : Bool) (s : State) :
    decodePsel (psel (tickStim raw) s) = phCase s := by
  simp only [psel, decodePsel_bits, mclr, evLong, consumeFire, incEn, wrap, tickFire, tickStim_rst,
    tickStim_tick, phCase]
  cases s.mode <;> cases s.thrHit <;> simp

theorem decodePsel_idle (s : State) :
    decodePsel (psel idleStim s) = if s.releasePending && s.isLong then .phMclr else .phHold := by
  simp only [psel, decodePsel_bits, mclr, evLong, consumeFire, incEn, wrap, tickFire, idleStim_rst,
    idleStim_tick]
  simp

theorem decodeCls_csel (s : State) : decodeCls (csel s) = clsCase s := by
  unfold csel clsCase
  cases s.isLong <;> cases s.mode <;> rfl

theorem decodeCns_csel (s : State) : decodeCns (csel s) = some (cnsCase s) := by
  unfold csel cnsCase
  cases s.isLong <;> cases s.mode <;> rfl

/-- The four operations of a TICK step. -/
theorem tickOps_eq (raw : Bool) (s : State) :
    tickOps raw s = [smpCase raw s, accCase raw s, drvCase s, phCase s] := by
  simp [tickOps, decodeSsel_ssel, decodeAsel_asel, decodeDsel_dsel, decodePsel_tick]

/-- The three operations of a CONSUME step with an event pending. -/
theorem consumeOps_eq {s : State} (h : s.releasePending = true) :
    consumeOps s = [clsCase s, cnsCase s, if s.isLong then .phMclr else .phHold] := by
  simp [consumeOps, decodeCls_csel, decodeCns_csel, decodePsel_idle, h]

/-- The step of a cycle, by the bits of its select value. -/
theorem decodeStepsel_bits (r t p b : Bool) :
    decodeStepsel (BitVec.ofBool r ++ BitVec.ofBool t ++ BitVec.ofBool p) b =
    if r then .reset else if t then .tick b else if p then .consume else .hold := by
  revert r t p b; decide

theorem selectStep_eq (w : Stim) (s : State) :
    selectStep w s =
      if Stim.rst w then .reset else if Stim.tick w then .tick (Stim.btnRaw w)
      else if s.releasePending then .consume else .hold := by
  simp only [selectStep, stepsel, decodeStepsel_bits]

end Sys2Proof.Machine
end

