-- ==== Sys2Proof/Laws/Steps.lean ====
section
/-!
SUPPORT. Laws.Steps: what every step has in common. A meaning always answers a next state and never
touches the stimulus schedule; the run of a script is made of clock cycles.
-/

namespace Sys2Proof.Machine

/-- Every operation completes, from every state, and leaves the stimulus schedule alone. -/
theorem exec_total (i : Instr) (s : State) :
    ∃ t, exec i s = .next t ∧ t.script = s.script ∧ t.freeCycles = s.freeCycles := by
  cases i
  case consume =>
    simp only [exec, execConsume]
    split <;> exact ⟨_, rfl, rfl, rfl⟩
  all_goals exact ⟨_, rfl, rfl, rfl⟩

/-- Every clock cycle completes and leaves the stimulus schedule alone. -/
theorem clock_total (w : Stim) (s : State) :
    ∃ t, clock w s = .next t ∧ t.script = s.script ∧ t.freeCycles = s.freeCycles :=
  exec_total _ _

theorem clock_rst {w : Stim} {s : State} (h : Stim.rst w = true) : clock w s = exec .reset s := by
  simp [clock, selectStep_eq, h]

theorem clock_tick {w : Stim} {s : State} (hr : Stim.rst w = false) (ht : Stim.tick w = true) :
    clock w s = exec (.tick (Stim.btnRaw w)) s := by
  simp [clock, selectStep_eq, hr, ht]

theorem clock_free {w : Stim} {s : State} (hr : Stim.rst w = false) (ht : Stim.tick w = false) :
    clock w s = if s.releasePending then exec .consume s else exec .hold s := by
  simp only [clock, selectStep_eq, hr, ht]
  cases s.releasePending <;> rfl

@[simp] theorem runScript_nil (s : State) : runScript [] s = .next s := rfl

theorem runScript_cons {w : Stim} {s t : State} (ws : List Stim) (h : clock w s = .next t) :
    runScript (w :: ws) s = runScript ws t := by
  simp [runScript, h]

theorem patternUndisturbed_cons {w : Stim} {s t : State} (ws : List Stim) (h : clock w s = .next t) :
    patternUndisturbed (w :: ws) s = true ↔
      Stim.rst w = false ∧ evLong w s = false ∧ (evShort w s = true → s.mode ≠ .mode1) ∧
        patternUndisturbed ws t = true := by
  cases hs : evShort w s <;> simp [patternUndisturbed, h, hs, and_assoc]

theorem runScript_append {us : List Stim} {s t : State} (ws : List Stim)
    (h : runScript us s = .next t) : runScript (us ++ ws) s = runScript ws t := by
  induction us generalizing s with
  | nil => simp only [runScript_nil, Host.Outcome.next.injEq] at h; simp [h]
  | cons u us ih =>
    obtain ⟨a, ha, -⟩ := clock_total u s
    rw [runScript_cons us ha] at h
    rw [List.cons_append, runScript_cons _ ha, ih h]

/-- Every script runs to its end. -/
theorem runScript_total (ws : List Stim) (s : State) : ∃ t, runScript ws s = .next t := by
  induction ws generalizing s with
  | nil => exact ⟨s, rfl⟩
  | cons w ws ih =>
    obtain ⟨a, ha, -⟩ := clock_total w s
    rw [runScript_cons ws ha]
    exact ih a

theorem step_eq_clock (s : State) : step s = clock s.stim s.advance := rfl

@[simp] theorem stim_withScript_cons (s : State) (w : Stim) (ws : List Stim) :
    (s.withScript (w :: ws)).stim = w := rfl

@[simp] theorem advance_withScript_cons (s : State) (w : Stim) (ws : List Stim) :
    (s.withScript (w :: ws)).advance = s.withScript ws := rfl

@[simp] theorem withScript_withScript (s : State) (us ws : List Stim) :
    (s.withScript us).withScript ws = s.withScript ws := rfl

end Sys2Proof.Machine
end

