-- ==== Sys2Proof/Laws/TickLevel.lean ====
section
/-!
SUPPORT. Laws.TickLevel: the tick-level functions field by field. The sampler side of a tick-level
step depends on the sampler side alone, so proofs about presses cite `samplerNext_of_tickStep` and
never look at the pattern.
-/

namespace Sys2Proof.Machine

@[simp] theorem ticks_nil (s : State) : ticks s [] = s := rfl

@[simp] theorem ticks_cons (s : State) (raw : Bool) (raws : List Bool) :
    ticks s (raw :: raws) = ticks (tickStep s raw) raws := rfl

theorem ticks_append (s : State) (us vs : List Bool) : ticks s (us ++ vs) = ticks (ticks s us) vs := by
  simp [ticks]

theorem ticks_concat (s : State) (us : List Bool) (raw : Bool) :
    ticks s (us ++ [raw]) = tickStep (ticks s us) raw := by simp [ticks]

theorem ticks_replicate_succ (s : State) (raw : Bool) (k : Nat) :
    ticks s (List.replicate (k + 1) raw) = tickStep (ticks s (List.replicate k raw)) raw := by
  rw [List.replicate_succ', ticks_concat]

section pattern

variable (s : State)

@[simp] theorem advancePattern_cnt : (advancePattern s).cnt = s.cnt := by
  unfold advancePattern; dsimp only; repeat' split
  all_goals rfl
@[simp] theorem advancePattern_pressed : (advancePattern s).pressed = s.pressed := by
  unfold advancePattern; dsimp only; repeat' split
  all_goals rfl
@[simp] theorem advancePattern_dur : (advancePattern s).dur = s.dur := by
  unfold advancePattern; dsimp only; repeat' split
  all_goals rfl
@[simp] theorem advancePattern_releasePending :
    (advancePattern s).releasePending = s.releasePending := by
  unfold advancePattern; dsimp only; repeat' split
  all_goals rfl
@[simp] theorem advancePattern_evDuration : (advancePattern s).evDuration = s.evDuration := by
  unfold advancePattern; dsimp only; repeat' split
  all_goals rfl
@[simp] theorem advancePattern_mode : (advancePattern s).mode = s.mode := by
  unfold advancePattern; dsimp only; repeat' split
  all_goals rfl
@[simp] theorem advancePattern_lampToggle : (advancePattern s).lampToggle = s.lampToggle := by
  unfold advancePattern; dsimp only; repeat' split
  all_goals rfl

variable (raw : Bool)

@[simp] theorem sampleInput_mode : (sampleInput s raw).mode = s.mode := by
  unfold sampleInput; dsimp only; repeat' split
  all_goals rfl
@[simp] theorem sampleInput_lampToggle : (sampleInput s raw).lampToggle = s.lampToggle := by
  unfold sampleInput; dsimp only; repeat' split
  all_goals rfl
@[simp] theorem sampleInput_phase : (sampleInput s raw).phase = s.phase := by
  unfold sampleInput; dsimp only; repeat' split
  all_goals rfl
@[simp] theorem sampleInput_lamp : (sampleInput s raw).lamp = s.lamp := by
  unfold sampleInput; dsimp only; repeat' split
  all_goals rfl

@[simp] theorem consume_cnt : (consume s).cnt = s.cnt := by
  unfold consume; dsimp only; repeat' split
  all_goals rfl
@[simp] theorem consume_pressed : (consume s).pressed = s.pressed := by
  unfold consume; dsimp only; repeat' split
  all_goals rfl
@[simp] theorem consume_dur : (consume s).dur = s.dur := by
  unfold consume; dsimp only; repeat' split
  all_goals rfl
@[simp] theorem consume_evDuration : (consume s).evDuration = s.evDuration := by
  unfold consume; dsimp only; repeat' split
  all_goals rfl
/-- The consumer leaves no event pending. -/
@[simp] theorem consume_releasePending : (consume s).releasePending = false := by
  unfold consume; dsimp only; repeat' split
  all_goals first | rfl | simp_all

/-- Without an event the consumer does nothing. -/
theorem consume_eq_self {s : State} (h : s.releasePending = false) : consume s = s := by
  simp [consume, h]

@[simp] theorem tickStep_releasePending : (tickStep s raw).releasePending = false := by
  simp [tickStep]

end pattern

/-- The sampler side of a state: `cnt`, `pressed`, `dur`, `ev_duration`, the counts as numbers. -/
def State.samplerSide (s : State) : Nat × Bool × Nat × Nat :=
  (s.cnt.val, s.pressed, s.dur.toNat, s.evDuration.toNat)

/-- One tick of the sampler side. -/
def samplerNext (raw : Bool) : Nat × Bool × Nat × Nat → Nat × Bool × Nat × Nat
  | (c, p, d, e) =>
    if raw then
      if c < 20 then (c + 1, (if c + 1 = 20 then true else p), d, e)
      else (c, p, min (d + 1) 65535, e)
    else if 0 < c then (c - 1, p, d, e)
    else if p then (0, false, 0, d)
    else (c, p, d, e)

/-- A tick-level step moves the sampler side by `samplerNext`, whatever the pattern does. -/
theorem samplerNext_of_tickStep (s : State) (raw : Bool) :
    (tickStep s raw).samplerSide = samplerNext raw s.samplerSide := by
  have hc : s.cnt.val < 21 := s.cnt.isLt
  simp only [State.samplerSide, tickStep, handler, consume_cnt, consume_pressed, consume_dur,
    consume_evDuration, advancePattern_cnt, advancePattern_pressed, advancePattern_dur,
    advancePattern_evDuration, samplerNext, sampleInput]
  cases raw
  · by_cases h0 : 0 < s.cnt.val
    · simp [h0]
    · have hz : s.cnt.val = 0 := by omega
      by_cases hp : s.pressed = true <;> simp [hp, hz]
  · by_cases h : s.cnt.val < 20
    · simp [h]
    · simp [h, satinc_toNat]

end Sys2Proof.Machine
end

