-- ==== Sys2Proof/Tests/Slice0.lean ====
section
/-!
SUPPORT. Tests: the refused terms of WellFormed, every operation's word and one step of it, and for
every obligation with hypotheses a concrete input that meets them. Expected words come from the
patterns of 30_encoding.md R85 to R90, expected states from part B of 95_test_vectors.md.
-/

namespace Sys2Proof.Tests

open Sys2Proof Sys2Proof.Machine

/-- A state from the tuple of R96, with nothing scheduled. -/
def st (cnt : Cnt) (pressed : Bool) (dur : Duration) (releasePending : Bool) (evDuration : Duration)
    (mode : Mode) (lampToggle : Bool) (phase : Phase) (lamp : Bool) : State where
  cnt := cnt
  pressed := pressed
  dur := dur
  releasePending := releasePending
  evDuration := evDuration
  mode := mode
  lampToggle := lampToggle
  phase := phase
  lamp := lamp
  script := []
  freeCycles := 0

/-- The operation the decoder reads. -/
def read (v : SelectWord) : Option Instr :=
  match decode v with
  | .ok i => some i
  | .error _ => none

/-- The next state of an outcome. -/
def next : Host.Outcome State Fault Refusal → Option State
  | .next t => some t
  | .fault _ => none
  | .refused _ => none

/-- The state after one clock cycle with the given stimulus word. -/
def after (w : Stim) (s : State) : Option State := next (clock w s)

/-! ### Ill-formed terms are refused (R95, R290) -/

theorem test_ssel_max_and_pre : (SelectWord.ssel 0b01101).possible = false := by decide
theorem test_ssel_max_and_zero : (SelectWord.ssel 0b01011).possible = false := by decide
theorem test_ssel_pre_and_zero : (SelectWord.ssel 0b10110).possible = false := by decide
theorem test_ssel_max_unpressed : (SelectWord.ssel 0b11000).possible = false := by decide
theorem test_asel_two_strobes : (SelectWord.asel 0b110).possible = false := by decide
theorem test_csel_no_mode :
    (SelectWord.cselCls 0b100).possible = false ∧ (SelectWord.cselCns 0b000).possible = false := by decide
theorem test_psel_two_commands : (SelectWord.psel 0b111).possible = false := by decide
theorem test_dsel_no_mode : (SelectWord.dsel 0b0010).possible = false := by decide
theorem test_dsel_mode1_threshold : (SelectWord.dsel 0b0111).possible = false := by decide
theorem test_ticks_too_close : spaced [3, 3] = false := by decide
theorem test_ticks_apart_by_reset_only : spaced [2, 4, 2] = false := by decide
theorem test_ticks_well_spaced : spaced [3, 0, 2] = true := by decide
theorem test_no_mode_refused :
    decode (.cselCns 0b100) = .error .cselWithoutMode ∧
    decode (.dsel 0b0011) = .error .dselWithoutMode := ⟨rfl, rfl⟩

/-! ### One word and one step of every operation -/

/-- R123, table B1, and PH_HOLD of table B5 in the same step. -/
theorem test_hold :
    read (.stepsel 0b000 true) = some .hold ∧ selectStep 1 (st 5 false 0 false 0 .mode1 true 0 true) = .hold ∧
    after 1 (st 5 false 0 false 0 .mode1 true 0 true) = some (st 5 false 0 false 0 .mode1 true 0 true) := by decide

/-- R211, table B5: PH_HOLD in a HOLD step. -/
theorem test_phHold :
    read (.psel 0b001) = some .phHold ∧ .phHold ∈ stepOps .hold (st 0 false 0 false 0 .mode2 true 37 false) ∧
    after 0 (st 0 false 0 false 0 .mode2 true 37 false) = some (st 0 false 0 false 0 .mode2 true 37 false) := by decide

/-- R124, table B1: the operand is the raw level at the edge; the pending event waits. -/
theorem test_tick :
    read (.stepsel 0b011 false) = some (.tick false) ∧ after 2 (st 5 false 0 false 0 .mode1 true 0 true) = some (st 4 false 0 false 0 .mode1 true 0 true) ∧
    after 3 (st 0 false 0 true 11 .mode1 true 0 true) = some (st 1 false 0 true 11 .mode1 true 0 true) := by decide

/-- R125, table B1. -/
theorem test_consume :
    read (.stepsel 0b001 true) = some .consume ∧ selectStep 1 (st 0 false 0 true 11 .mode1 true 0 true) = .consume ∧
    after 1 (st 0 false 0 true 11 .mode1 true 0 true) = some (st 0 false 0 false 11 .mode1 false 0 false) := by decide

/-- R122, table B1: RESET over a tick and a pending event. -/
theorem test_reset :
    read (.stepsel 0b111 true) = some .reset ∧ selectStep 7 (st 0 false 0 true 11 .mode1 true 0 true) = .reset ∧
    after 7 (st 0 false 0 true 11 .mode1 true 0 true) = some (st 0 false 0 false 0 .mode1 true 0 true) := by decide

/-- R143, table B2: pressed at 18, whatever `pressed` holds. -/
theorem test_smpUp :
    read (.ssel 0b10001) = some .smpUp ∧
    .smpUp ∈ tickOps true (st 18 true 0 false 0 .mode1 true 0 true) ∧
    after 3 (st 18 true 0 false 0 .mode1 true 0 true) = some (st 19 true 0 false 0 .mode1 true 0 true) := by decide

/-- R144, table B2: at 19 a recovered hold is confirmed again, `dur` unchanged. -/
theorem test_smpConfirm :
    read (.ssel 0b10101) = some .smpConfirm ∧
    .smpConfirm ∈ tickOps true (st 19 true 7 false 0 .mode1 true 0 true) ∧
    after 3 (st 19 true 7 false 0 .mode1 true 0 true) = some (st 20 true 7 false 0 .mode1 true 0 true) := by decide

/-- R145, table B2: at the ceiling, `dur + 1`. -/
theorem test_smpHold :
    read (.ssel 0b11101) = some .smpHold ∧
    .smpHold ∈ tickOps true (st 20 true 7 false 0 .mode1 true 0 true) ∧
    after 3 (st 20 true 7 false 0 .mode1 true 0 true) = some (st 20 true 8 false 0 .mode1 true 0 true) := by decide

/-- R146, table B2: the last step down, no event yet. -/
theorem test_smpDown :
    read (.ssel 0b01101) = some .smpDown ∧
    .smpDown ∈ tickOps false (st 1 true 9 false 0 .mode1 true 0 true) ∧
    after 2 (st 1 true 9 false 0 .mode1 true 0 true) = some (st 0 true 9 false 0 .mode1 true 0 true) := by decide

/-- R147, table B2: the event is published. -/
theorem test_smpRelease :
    read (.ssel 0b01111) = some .smpRelease ∧
    .smpRelease ∈ tickOps false (st 0 true 11 false 0 .mode1 true 0 true) ∧
    after 2 (st 0 true 11 false 0 .mode1 true 0 true) = some (st 0 false 0 true 11 .mode1 true 0 true) := by decide

/-- R148, table B2. -/
theorem test_smpIdle :
    read (.ssel 0b01110) = some .smpIdle ∧
    .smpIdle ∈ tickOps false (st 0 false 0 false 0 .mode1 true 0 true) ∧
    after 2 (st 0 false 0 false 0 .mode1 true 0 true) = some (st 0 false 0 false 0 .mode1 true 0 true) := by decide

/-- R171, table B3: no strobe. -/
theorem test_accIdle :
    read (.asel 0b001) = some .accIdle ∧
    .accIdle ∈ tickOps false (st 0 false 7 false 0 .mode1 true 0 true) ∧
    after 2 (st 0 false 7 false 0 .mode1 true 0 true) = some (st 0 false 7 false 0 .mode1 true 0 true) := by decide

/-- R172, table B3: from 65534 to the cap. -/
theorem test_accInc :
    read (.asel 0b110) = some .accInc ∧
    .accInc ∈ tickOps true (st 20 true 65534 false 0 .mode1 true 0 true) ∧
    after 3 (st 20 true 65534 false 0 .mode1 true 0 true) = some (st 20 true 65535 false 0 .mode1 true 0 true) := by decide

/-- R173, table B3: at the cap. -/
theorem test_accSat :
    read (.asel 0b111) = some .accSat ∧
    .accSat ∈ tickOps true (st 20 true 65535 false 0 .mode1 true 0 true) ∧
    after 3 (st 20 true 65535 false 0 .mode1 true 0 true) = some (st 20 true 65535 false 0 .mode1 true 0 true) := by decide

/-- R174, R175, table B3: an unconsumed event is overwritten. -/
theorem test_accPublish :
    read (.asel 0b011) = some .accPublish ∧
    .accPublish ∈ tickOps false (st 0 true 5 true 0 .mode1 true 0 true) ∧
    after 2 (st 0 true 5 true 0 .mode1 true 0 true) = some (st 0 false 0 true 5 .mode1 true 0 true) := by decide

/-- R177, table B3: 2999 is short. -/
theorem test_clsShort :
    read (.cselCls 0b010) = some .clsShort ∧
    .clsShort ∈ consumeOps (st 0 false 0 true 2999 .mode2 true 0 false) ∧
    after 0 (st 0 false 0 true 2999 .mode2 true 0 false) = some (st 0 false 0 false 2999 .mode2 true 0 false) := by decide

/-- R178, table B3: 3000 is long; `dur` of a new press is not touched. -/
theorem test_clsLong :
    read (.cselCls 0b111) = some .clsLong ∧
    .clsLong ∈ consumeOps (st 0 false 4 true 3000 .mode3 true 640 false) ∧
    after 0 (st 0 false 4 true 3000 .mode3 true 640 false) = some (st 0 false 4 false 3000 .mode1 true 0 true) := by decide

/-- R188, table B4. -/
theorem test_cnsShortM1 :
    read (.cselCns 0b001) = some .cnsShortM1 ∧
    .cnsShortM1 ∈ consumeOps (st 0 false 0 true 11 .mode1 false 0 false) ∧
    after 0 (st 0 false 0 true 11 .mode1 false 0 false) = some (st 0 false 0 false 11 .mode1 true 0 true) := by decide

/-- R189, table B4: `lamp_toggle` kept. -/
theorem test_cnsLongM1 :
    read (.cselCns 0b101) = some .cnsLongM1 ∧
    .cnsLongM1 ∈ consumeOps (st 0 false 0 true 3000 .mode1 false 0 false) ∧
    after 0 (st 0 false 0 true 3000 .mode1 false 0 false) = some (st 0 false 0 false 3000 .mode2 false 0 false) := by decide

/-- R190, table B4. -/
theorem test_cnsShortM2 :
    read (.cselCns 0b010) = some .cnsShortM2 ∧
    .cnsShortM2 ∈ consumeOps (st 0 false 0 true 2999 .mode2 true 37 false) ∧
    after 0 (st 0 false 0 true 2999 .mode2 true 37 false) = some (st 0 false 0 false 2999 .mode2 true 37 false) := by decide

/-- R191, table B4. -/
theorem test_cnsLongM2 :
    read (.cselCns 0b110) = some .cnsLongM2 ∧
    .cnsLongM2 ∈ consumeOps (st 0 false 0 true 65535 .mode2 false 12 true) ∧
    after 0 (st 0 false 0 true 65535 .mode2 false 12 true) = some (st 0 false 0 false 65535 .mode3 false 0 true) := by decide

/-- R192, table B4. -/
theorem test_cnsShortM3 :
    read (.cselCns 0b011) = some .cnsShortM3 ∧
    .cnsShortM3 ∈ consumeOps (st 0 false 0 true 0 .mode3 true 640 false) ∧
    after 0 (st 0 false 0 true 0 .mode3 true 640 false) = some (st 0 false 0 false 0 .mode3 true 640 false) := by decide

/-- R193, table B4: `lamp_toggle` forced ON. -/
theorem test_cnsLongM3 :
    read (.cselCns 0b111) = some .cnsLongM3 ∧
    .cnsLongM3 ∈ consumeOps (st 0 false 0 true 4000 .mode3 false 55 true) ∧
    after 0 (st 0 false 0 true 4000 .mode3 false 55 true) = some (st 0 false 0 false 4000 .mode1 true 0 true) := by decide

/-- R212, table B5: the ON threshold does not apply when OFF. -/
theorem test_phInc :
    read (.psel 0b010) = some .phInc ∧
    .phInc ∈ tickOps false (st 0 false 0 false 0 .mode3 true 99 false) ∧
    after 2 (st 0 false 0 false 0 .mode3 true 99 false) = some (st 0 false 0 false 0 .mode3 true 100 false) := by decide

/-- R213, table B5. -/
theorem test_phWrap :
    read (.psel 0b011) = some .phWrap ∧
    .phWrap ∈ tickOps false (st 0 false 0 false 0 .mode2 true 49 true) ∧
    after 2 (st 0 false 0 false 0 .mode2 true 49 true) = some (st 0 false 0 false 0 .mode2 true 0 false) := by decide

/-- R214, table B5: with CNS_LONG_M2. -/
theorem test_phMclr :
    read (.psel 0b111) = some .phMclr ∧
    .phMclr ∈ consumeOps (st 0 false 0 true 3000 .mode2 true 37 false) ∧
    after 0 (st 0 false 0 true 3000 .mode2 true 37 false) = some (st 0 false 0 false 3000 .mode3 true 0 true) := by decide

/-- R227, table B5. -/
theorem test_drvM1 :
    read (.dsel 0b0111) = some .drvM1 ∧
    .drvM1 ∈ tickOps false (st 0 false 0 false 0 .mode1 true 0 false) ∧
    after 2 (st 0 false 0 false 0 .mode1 true 0 false) = some (st 0 false 0 false 0 .mode1 true 0 false) := by decide

/-- R228, table B5. -/
theorem test_drvM2Run :
    read (.dsel 0b1010) = some .drvM2Run ∧
    .drvM2Run ∈ tickOps false (st 0 false 0 false 0 .mode2 true 48 true) ∧
    after 2 (st 0 false 0 false 0 .mode2 true 48 true) = some (st 0 false 0 false 0 .mode2 true 49 true) := by decide

/-- R229, table B5. -/
theorem test_drvM2Toggle :
    read (.dsel 0b1001) = some .drvM2Toggle ∧
    .drvM2Toggle ∈ tickOps false (st 0 false 0 false 0 .mode2 true 49 false) ∧
    after 2 (st 0 false 0 false 0 .mode2 true 49 false) = some (st 0 false 0 false 0 .mode2 true 0 true) := by decide

/-- R230, table B5. -/
theorem test_drvM3OnRun :
    read (.dsel 0b1110) = some .drvM3OnRun ∧
    .drvM3OnRun ∈ tickOps false (st 0 false 0 false 0 .mode3 true 98 true) ∧
    after 2 (st 0 false 0 false 0 .mode3 true 98 true) = some (st 0 false 0 false 0 .mode3 true 99 true) := by decide

/-- R231, table B5. -/
theorem test_drvM3OnEnd :
    read (.dsel 0b1111) = some .drvM3OnEnd ∧
    .drvM3OnEnd ∈ tickOps false (st 0 false 0 false 0 .mode3 true 99 true) ∧
    after 2 (st 0 false 0 false 0 .mode3 true 99 true) = some (st 0 false 0 false 0 .mode3 true 0 false) := by decide

/-- R232, table B5. -/
theorem test_drvM3OffRun :
    read (.dsel 0b1100) = some .drvM3OffRun ∧
    .drvM3OffRun ∈ tickOps false (st 0 false 0 false 0 .mode3 true 898 false) ∧
    after 2 (st 0 false 0 false 0 .mode3 true 898 false) = some (st 0 false 0 false 0 .mode3 true 899 false) := by decide

/-- R233, table B5. -/
theorem test_drvM3OffEnd :
    read (.dsel 0b1101) = some .drvM3OffEnd ∧
    .drvM3OffEnd ∈ tickOps false (st 0 false 0 false 0 .mode3 true 899 false) ∧
    after 2 (st 0 false 0 false 0 .mode3 true 899 false) = some (st 0 false 0 false 0 .mode3 true 0 true) := by decide

/-! ### A transition on a pattern wrap (table B7) -/

/-- R255 (f): the TICK step, with the wrap and the release in one tick. -/
theorem test_wrap_and_release :
    after 2 (st 0 true 3000 false 0 .mode2 true 49 false) = some (st 0 false 0 true 3000 .mode2 true 0 true) := by decide

/-- R255 (f): the CONSUME step after it; the transition's values stand. -/
theorem test_transition_after_wrap :
    after 0 (st 0 false 0 true 3000 .mode2 true 0 true) = some (st 0 false 0 false 3000 .mode3 true 0 true) := by decide

/-! ### Bare words of the table (notes/assumptions/3.md and 4.md) -/

theorem test_table_words :
    decodeTableWord 8 0x04 = some .reset ∧ decodeTableWord 8 0x10 = some .smpUp ∧
    decodeTableWord 8 0x0d = some .drvM3OffEnd ∧ decodeTableWord 5 0x03 = some .smpRelease ∧
    decodeTableWord 4 0x04 = some .drvM1 ∧ decodeTableWord 8 0x07 = some .cnsLongM3 ∧ decodeTableWord 8 0x20 = none := by decide

/-- The staged operation is performed by the very next step: SMP_CONFIRM from reset. -/
theorem test_with_fetch_word :
    next (step (State.reset.withFetchWord 8 0x14)) = some (st 20 true 0 false 0 .mode1 true 0 true) := by
  decide

/-- Script notation (R98): `HELD 2..3 UNTIL 4` and `ALT 2`. -/
theorem test_script_words :
    scriptHeld [(2, 3)] 4 = [2, 0, 3, 0, 3, 0, 2, 0] ∧ scriptAlt 2 = [3, 0, 2, 0] := by decide

/-! ### Concrete inputs that meet the hypotheses of the obligations -/

/-- A mode-3 state at its phase ceiling with the button held and an event pending. -/
def sHeld : State := st 20 true 65535 true 3000 .mode3 false 899 false

/-- A mode-2 state about to toggle, with a saturated press about to be released. -/
def sEdge : State := st 0 true 65535 false 0 .mode2 true 49 true

/-- A mode-2 state as a long press leaves it: phase 0, lamp OFF, the sampler idle. -/
def sBlink : State := st 0 false 0 false 3081 .mode2 true 0 false

/-- A mode-3 state as a long press leaves it: phase 0, lamp ON, the sampler idle. -/
def sFlash : State := st 0 false 0 false 3081 .mode3 true 0 true

theorem witness_ResetGivesEveryRegisterItsValue : Stim.rst 7 = true ∧ sHeld ≠ State.reset := by decide

theorem witness_EveryStepKeepsTheInvariants :
    RegInv sHeld ∧ RegInv sEdge ∧ RegInv sBlink ∧ RegInv sFlash :=
  ⟨by decide, by decide, by decide, by decide⟩

theorem witness_PhaseNeverExceeds899 : RegInv sHeld ∧ sHeld.phase.toNat = 899 := by decide

theorem witness_DecodeAndEncodeAgree :
    (SelectWord.ssel 0b11001).possible = true ∧ (SelectWord.asel 0b101).possible = true ∧
    (SelectWord.cselCns 0b111).possible = true ∧ (SelectWord.psel 0b100).possible = true ∧
    (SelectWord.dsel 0b1101).possible = true ∧
    (SelectWord.dsel 0b1010).fitsPattern .drvM2Run = true := by decide

theorem witness_StepRunsTheDecodedOperation :
    read (stepWord (sHeld.withScript [0]).stim (sHeld.withScript [0])) = some .consume ∧
    (sHeld.withScript [0]).script = [0] ∧ sHeld.script = [] := by decide

theorem witness_ResetOverTickOverConsumeOverHold :
    Stim.rst 6 = true ∧ (Stim.rst 3 = false ∧ Stim.tick 3 = true) ∧
    (Stim.rst 1 = false ∧ Stim.tick 1 = false ∧ sHeld.releasePending = true) ∧
    (Stim.rst 0 = false ∧ Stim.tick 0 = false ∧ sEdge.releasePending = false) := by decide

theorem witness_HoldChangesNothing :
    sEdge.releasePending = false ∧ ∀ w ∈ [(0 : Stim), 1, 0], FreeCycle w := by decide

theorem witness_TickSelectsOneOperationOfEachBlock : sHeld.releasePending = true := by decide

theorem witness_ConsumeSelectsOneOperationOfEachBlock :
    FreeCycle 1 ∧ sHeld.releasePending = true := by decide

theorem witness_OperationsOfAStepCommitTogether :
    ((tickOps false sEdge).reverse).Perm (tickOps false sEdge) ∧
    sHeld.releasePending = true ∧ ((consumeOps sHeld).reverse).Perm (consumeOps sHeld) := by decide

theorem witness_TickThenSlotIsTickStep :
    TickCycle 3 ∧ [(0 : Stim), 1] ≠ [] ∧ ∀ w ∈ [(0 : Stim), 1], FreeCycle w := by decide

theorem witness_IgnoredInputsChangeNothing :
    (Stim.rst 4 = true ∧ Stim.rst 7 = true) ∧ (FreeCycle 0 ∧ FreeCycle 1) := by decide

theorem witness_SamplerOnPressedSample :
    (st 18 false 0 false 0 .mode1 true 0 true).cnt.val < 19 ∧
    (st 19 false 0 false 0 .mode1 true 0 true).cnt.val = 19 ∧ sHeld.cnt.val = 20 := by decide

theorem witness_SamplerOnReleasedSample :
    0 < (st 1 false 0 false 0 .mode1 true 0 true).cnt.val ∧
    (sEdge.cnt.val = 0 ∧ sEdge.pressed = true) ∧ (sBlink.cnt.val = 0 ∧ sBlink.pressed = false) := by decide

theorem witness_CounterIsClampedIntegrator :
    (exec (.tick true) (st 19 false 0 false 0 .mode1 true 0 true) =
        .next (st 20 true 0 false 0 .mode1 true 0 true)) ∧
    (exec (.tick false) (st 0 true 0 false 0 .mode1 true 0 true) =
        .next (st 0 false 0 true 0 .mode1 true 0 true)) := ⟨rfl, rfl⟩

theorem witness_CleanPressPublishesItsLengthLess20 :
    SamplerIdle sBlink ∧ sBlink.dur = 0 ∧ 20 ≤ 20 ∧ 20 ≤ 3020 := by decide

theorem witness_ShortPulseIsAbsorbed : SamplerIdle sBlink ∧ 1 ≤ 19 ∧ 19 ≤ 19 := by decide

theorem witness_FewerThan20SamplesEmitNoEvent :
    SamplerIdle sBlink ∧ sBlink.releasePending = false ∧
    (List.replicate 19 true ++ [false]).count true < 20 := by decide

theorem witness_ReleasedGlitchInsideAHold :
    sHeld.cnt.val = 20 ∧ sHeld.pressed = true ∧ 1 ≤ 19 ∧ 19 ≤ 19 := by decide

set_option maxRecDepth 10000 in
theorem witness_ReleaseEventsAre41TicksApart :
    .smpRelease ∈ tickOps false sEdge ∧ SamplerIdle State.reset ∧ State.reset.dur = 0 ∧
    .smpConfirm ∈ tickOps true (ticks State.reset (List.replicate 19 true)) ∧
    .smpRelease ∈ tickOps false (ticks State.reset (List.replicate 20 true ++ List.replicate 20 false)) := by
  decide

theorem witness_AccumulatorCountsHeldTicks :
    (accStb (tickStim false) sBlink = false ∧ releaseStb (tickStim false) sBlink = false) ∧
    (accStb (tickStim true) (st 20 true 65534 false 0 .mode1 true 0 true) = true ∧
      (st 20 true 65534 false 0 .mode1 true 0 true).dur.toNat < 65535) ∧
    (accStb (tickStim true) sHeld = true ∧ sHeld.dur.toNat = 65535) := by decide

theorem witness_PublishOverwritesAnUnconsumedEvent : releaseStb (tickStim false) sEdge = true := by decide

theorem witness_TickPostponesThePendingEvent :
    TickCycle 2 ∧ sHeld.releasePending = true ∧ releaseStb 2 sHeld = false ∧
    releaseStb 2 (sEdge.withEvent 7) = true ∧ (sEdge.withEvent 7).releasePending = true := by decide

theorem witness_ClassifierSplitsAt3000 :
    (FreeCycle 0 ∧ (sBlink.withEvent 2999).releasePending = true ∧
      (sBlink.withEvent 2999).evDuration.toNat < 3000) ∧
    (FreeCycle 1 ∧ (sBlink.withEvent 3000).releasePending = true ∧
      3000 ≤ (sBlink.withEvent 3000).evDuration.toNat) := by decide

theorem witness_EventIsConsumedOnce : FreeCycle 0 ∧ sHeld.releasePending = true := by decide

theorem witness_ShortPressRows :
    ((State.reset.withEvent 11).releasePending = true ∧ (State.reset.withEvent 11).isLong = false ∧
      (State.reset.withEvent 11).mode = .mode1) ∧
    ((sBlink.withEvent 2999).releasePending = true ∧ (sBlink.withEvent 2999).isLong = false ∧
      (sBlink.withEvent 2999).mode = .mode2) ∧
    ((sFlash.withEvent 0).releasePending = true ∧ (sFlash.withEvent 0).isLong = false ∧
      (sFlash.withEvent 0).mode = .mode3) := by decide

theorem witness_LongPressRows :
    ((State.reset.withEvent 3000).releasePending = true ∧
      (State.reset.withEvent 3000).isLong = true ∧ (State.reset.withEvent 3000).mode = .mode1) ∧
    ((sBlink.withEvent 3000).releasePending = true ∧ (sBlink.withEvent 3000).isLong = true ∧
      (sBlink.withEvent 3000).mode = .mode2) ∧
    ((sFlash.withEvent 65535).releasePending = true ∧ (sFlash.withEvent 65535).isLong = true ∧
      (sFlash.withEvent 65535).mode = .mode3) := by decide

theorem witness_ModeCountsLongPressesModulo3 :
    (∀ w ∈ [(3 : Stim), 0], Stim.rst w = false) ∧ longEvents [3, 0] sHeld = 1 := by decide

theorem witness_OnlyALongPressChangesTheMode :
    Stim.rst 0 = false ∧ evLong 0 sHeld = true ∧ evLong 0 sEdge = false := by decide

theorem witness_LampToggleIsKeptOutsideMode1 :
    Stim.rst 0 = false ∧ (sEdge.mode ≠ .mode1 ∧ evLong 0 sEdge = false) ∧
    (sHeld.mode = .mode3 ∧ evLong 0 sHeld = true) := by decide

theorem witness_SaturatedPressStaysLong :
    sEdge.dur.toNat = 65535 ∧ sEdge.cnt.val = 0 ∧ sEdge.pressed = true := by decide

theorem witness_PhaseCounterCommands :
    (mclr 0 sEdge = false ∧ incEn 0 sEdge = false) ∧
    (TickCycle 2 ∧ State.reset.mode = .mode1) ∧
    (FreeCycle 0 ∧ sEdge.releasePending = false) ∧
    (FreeCycle 0 ∧ (sBlink.withEvent 2999).releasePending = true ∧
      (sBlink.withEvent 2999).isLong = false) ∧
    (TickCycle 2 ∧ sBlink.mode ≠ .mode1 ∧ sBlink.thrHit = false) ∧
    (TickCycle 3 ∧ sEdge.mode ≠ .mode1 ∧ sEdge.thrHit = true) ∧
    (FreeCycle 1 ∧ sHeld.releasePending = true ∧ sHeld.isLong = true) := by decide

theorem witness_DriverInModes1And2 :
    State.reset.mode = .mode1 ∧
    ((st 0 false 0 false 0 .mode2 true 48 true).mode = .mode2 ∧
      (st 0 false 0 false 0 .mode2 true 48 true).phase.toNat + 1 < 50) ∧
    (sEdge.mode = .mode2 ∧ 50 ≤ sEdge.phase.toNat + 1) := by decide

theorem witness_DriverInMode3 :
    (st 0 false 0 false 0 .mode3 true 98 true).mode = .mode3 ∧
    ((st 0 false 0 false 0 .mode3 true 98 true).lamp = true ∧
      (st 0 false 0 false 0 .mode3 true 98 true).phase.toNat + 1 < 100) ∧
    (st 0 false 0 false 0 .mode3 true 99 true).mode = .mode3 ∧
    ((st 0 false 0 false 0 .mode3 true 99 true).lamp = true ∧
      100 ≤ (st 0 false 0 false 0 .mode3 true 99 true).phase.toNat + 1) ∧
    (st 0 false 0 false 0 .mode3 true 898 false).mode = .mode3 ∧
    ((st 0 false 0 false 0 .mode3 true 898 false).lamp = false ∧
      (st 0 false 0 false 0 .mode3 true 898 false).phase.toNat + 1 < 900) ∧
    (sHeld.mode = .mode3 ∧ sHeld.lamp = false ∧ 900 ≤ sHeld.phase.toNat + 1) := by decide

theorem witness_Mode2TogglesEvery50Ticks :
    (FreeCycle 0 ∧ (State.reset.withEvent 3000).mode = .mode1 ∧
      (State.reset.withEvent 3000).releasePending = true ∧
      (State.reset.withEvent 3000).isLong = true) ∧
    (sBlink.mode = .mode2 ∧ sBlink.phase = 0 ∧ sBlink.lamp = false ∧
      ∀ k, k ≤ [true, false].length → (ticks sBlink ([true, false].take k)).mode = .mode2) := by decide

theorem witness_Mode3FlashesOn100Off900 :
    (FreeCycle 0 ∧ (sBlink.withEvent 3000).mode = .mode2 ∧
      (sBlink.withEvent 3000).releasePending = true ∧ (sBlink.withEvent 3000).isLong = true) ∧
    (sFlash.mode = .mode3 ∧ sFlash.phase = 0 ∧ sFlash.lamp = true ∧
      ∀ k, k ≤ [true, false].length → (ticks sFlash ([true, false].take k)).mode = .mode3) := by decide

theorem witness_PatternIgnoresTheButton :
    SamePattern sEdge (st 0 true 7 false 0 .mode2 false 49 true) ∧
    decodeDsel (dsel sEdge) = some .drvM2Toggle ∧
    [(3 : Stim), 0, 2].countP Stim.tick = [(2 : Stim), 0, 1, 3, 0].countP Stim.tick ∧
    patternUndisturbed [3, 0, 2] sEdge = true ∧
    patternUndisturbed [2, 0, 1, 3, 0] (st 0 true 7 false 0 .mode2 false 49 true) = true ∧
    selectStep 0 (st 0 false 0 true 7 .mode2 false 0 false) = .consume := by decide

theorem witness_TransitionOverridesAWrap :
    (sEdge.cnt.val = 0 ∧ sEdge.pressed = true ∧ 3000 ≤ sEdge.dur.toNat ∧ sEdge.thrHit = true) ∧
    ((st 0 true 3000 false 0 .mode3 true 99 true).thrHit = true ∧
      (st 0 true 3000 false 0 .mode3 true 899 false).thrHit = true) := by decide

theorem witness_SpacedTicksNeverFindAnEventPending :
    sEdge.releasePending = false ∧ spaced ([2, 0] ++ [2]) = true ∧ Stim.tick 2 = true := by decide

theorem witness_StateVectorHoldsEveryRegister :
    sEdge.vector = (sEdge.withScript [2]).vector ∧ sEdge ≠ sEdge.withScript [2] := by decide

theorem witness_TickGeneratorKeepsTheSpacing : 2 ≤ 2 ∧ (Wrapper.mk 1 true true).divCnt < 2 := by decide

theorem witness_TickGeneratorPeriod :
    2 ≤ 2 ∧ (Wrapper.mk 0 true false).divCnt = 0 ∧
    (∀ p ∈ [(false, true), (false, false)], p.1 = false) ∧
    ((Wrapper.mk 0 true false).script 2 [(false, true), (false, false)])[1]? = some 2 := by decide

end Sys2Proof.Tests
end

section
/-!
SUPPORT. Proofs of the statements on 00_scope.md. The operations of one step commit together (R10):
a step's assignments commute pairwise, because the sub-blocks write different registers and the one
register two of them share, `phase` in a CONSUME step, gets the same value from both. Then the
parameters (R6 to R8).
-/

namespace Sys2Proof.Machine

/-! ### Assignments gathered in any order -/

theorem Writes.merge_assoc (u v w : Writes) : (u.merge v).merge w = u.merge (v.merge w) := by
  simp [Writes.merge, Option.or_assoc]

/-- The assignments of two operations commit to the same edge in either order. -/
def WritesCommute (s : State) (i j : Instr) : Prop :=
  (opWrites i s).merge (opWrites j s) = (opWrites j s).merge (opWrites i s)

/-- Operations whose assignments commute pairwise may be gathered in any order. -/
theorem gather_perm {s : State} {ops ops' : List Instr} (hp : ops.Perm ops')
    (hc : ops.Pairwise (WritesCommute s)) : gather ops s = gather ops' s := by
  induction hp with
  | nil => rfl
  | cons i _ ih =>
    obtain ⟨-, hrest⟩ := List.pairwise_cons.mp hc
    simp only [gather, ih hrest]
  | swap i j rest =>
    obtain ⟨hhead, -⟩ := List.pairwise_cons.mp hc
    have hji : WritesCommute s j i := hhead i List.mem_cons_self
    simp only [gather]
    rw [← Writes.merge_assoc, hji, Writes.merge_assoc]
  | trans hp₁ _ ih₁ ih₂ =>
    have hc₂ := hp₁.pairwise hc fun h => Eq.symm h
    exact (ih₁ hc).trans (ih₂ hc₂)

/-! ### The registers each sub-block writes -/

theorem opWrites_smpCase (raw : Bool) (s : State) :
    ∃ c p, opWrites (smpCase raw s) s = { cnt := c, pressed := p } := by
  unfold smpCase
  repeat' split
  all_goals exact ⟨_, _, rfl⟩

theorem opWrites_accCase (raw : Bool) (s : State) :
    ∃ d r e, opWrites (accCase raw s) s = { dur := d, releasePending := r, evDuration := e } := by
  unfold accCase
  repeat' split
  all_goals exact ⟨_, _, _, rfl⟩

theorem opWrites_drvCase (s : State) : ∃ l, opWrites (drvCase s) s = { lamp := l } := by
  unfold drvCase
  cases s.mode with
  | mode1 => exact ⟨_, rfl⟩
  | mode2 => dsimp only; split <;> exact ⟨_, rfl⟩
  | mode3 =>
    dsimp only
    repeat' split
    all_goals exact ⟨_, rfl⟩

theorem opWrites_phCase (s : State) : ∃ p, opWrites (phCase s) s = { phase := p } := by
  unfold phCase
  repeat' split
  all_goals exact ⟨_, rfl⟩

theorem opWrites_clsCase (s : State) :
    opWrites (clsCase s) s = { releasePending := some false } := by
  unfold clsCase
  split <;> rfl

/-- The phase clear that a consumed event carries: one for a long press, none for a short one. -/
def State.phaseClear (s : State) : Option Phase := if s.isLong then some 0 else none

/-- Of `phase`, the mode machine writes just the clear (R187). -/
theorem opWrites_cnsCase (s : State) :
    ∃ m t l, opWrites (cnsCase s) s =
      { mode := m, lampToggle := t, phase := s.phaseClear, lamp := l } := by
  unfold cnsCase State.phaseClear
  cases s.mode <;> dsimp only <;> split <;> exact ⟨_, _, _, rfl⟩

/-- In a CONSUME step the phase counter writes the same clear (R214). -/
theorem opWrites_consumePh (s : State) :
    opWrites (if s.isLong then .phMclr else .phHold) s = { phase := s.phaseClear } := by
  unfold State.phaseClear
  split <;> rfl

/-! ### The operations of one step commute -/

theorem tickOps_writesCommute (raw : Bool) (s : State) :
    (tickOps raw s).Pairwise (WritesCommute s) := by
  obtain ⟨c, p, hsmp⟩ := opWrites_smpCase raw s
  obtain ⟨d, r, e, hacc⟩ := opWrites_accCase raw s
  obtain ⟨l, hdrv⟩ := opWrites_drvCase s
  obtain ⟨q, hph⟩ := opWrites_phCase s
  simp [tickOps_eq, WritesCommute, hsmp, hacc, hdrv, hph, Writes.merge]

theorem consumeOps_writesCommute {s : State} (h : s.releasePending = true) :
    (consumeOps s).Pairwise (WritesCommute s) := by
  obtain ⟨m, t, l, hcns⟩ := opWrites_cnsCase s
  simp [consumeOps_eq h, WritesCommute, opWrites_clsCase, hcns, opWrites_consumePh,
    Writes.merge]

/-- Settles O15: the operations of a TICK step, and of a CONSUME step with an event pending, have
assignments that commute pairwise, so any order gathers the same. -/
theorem operationsOfAStepCommitTogether : Obligations.OperationsOfAStepCommitTogether := by
  unfold Obligations.OperationsOfAStepCommitTogether
  constructor
  · intro raw s ops hp
    rw [gather_perm hp.symm (tickOps_writesCommute raw s)]
  · intro s ops h hp
    rw [gather_perm hp.symm (consumeOps_writesCommute h)]

/-! ### Parameters -/

theorem exists_cnt_val_iff (n : Nat) : (∃ c : Cnt, c.val = n) ↔ n ≤ Config.DEBOUNCE_TICKS := by
  simp only [Fin.exists_iff, exists_prop, exists_eq_right]
  exact Nat.lt_succ_iff

theorem exists_bitVec_toNat_iff {w : Nat} (n : Nat) :
    (∃ v : BitVec w, v.toNat = n) ↔ n < 2 ^ w := by
  constructor
  · rintro ⟨v, rfl⟩
    exact v.isLt
  · exact fun h => ⟨BitVec.ofNatLT n h, BitVec.toNat_ofNatLT n h⟩

/-- The modes are the nonzero values of the register; `00` is none (R27, R92). -/
theorem exists_mode_toNat_iff (n : Nat) :
    (∃ m : Mode, m.toNat = n) ↔ 1 ≤ n ∧ n < 2 ^ Config.MODE_W := by
  constructor
  · rintro ⟨m, rfl⟩
    cases m <;> decide
  · rintro ⟨h1, h4⟩
    match n, h1, h4 with
    | 1, _, _ => exact ⟨.mode1, rfl⟩
    | 2, _, _ => exact ⟨.mode2, rfl⟩
    | 3, _, _ => exact ⟨.mode3, rfl⟩

/-- Settles O50: the constants and R8's inequalities by computation, the ranges of the register
types by a lemma for each type. -/
theorem parametersMeetTheirConstraints : Obligations.ParametersMeetTheirConstraints := by
  unfold Obligations.ParametersMeetTheirConstraints
  exact ⟨by decide, ⟨rfl, rfl, rfl, rfl, rfl, rfl, fun _ => rfl⟩, ⟨exists_cnt_val_iff,
    exists_bitVec_toNat_iff, exists_bitVec_toNat_iff, exists_mode_toNat_iff⟩, by decide⟩

end Sys2Proof.Machine
end

section
/-!
SUPPORT. Proofs of the statements on 10_state.md. A TICK step and a CONSUME step are first brought to
the tick-level functions `handler` and `consume`, whose frames are known, so that `clock_cases` says
once what a clock cycle can do. The invariants R40 to R47 are then split into the sampler's half and
the pattern's half, and each half is kept by the function that writes its registers.
-/

namespace Sys2Proof.Machine

/-! ### A TICK step is the handler -/

/-- Assignments that commit together may commit one after the other. -/
theorem State.commit_merge (s : State) (u v : Writes) :
    s.commit (u.merge v) = (s.commit v).commit u := by
  simp [State.commit, Option.getD_or]

theorem satinc_durMax (d : Duration) :
    satinc d durMaxValue = if d.toNat = 65535 then d else d + 1 := by
  have hd : d.toNat < 65536 := d.isLt
  have hlt : d < durMaxValue ↔ ¬ d.toNat = 65535 := by
    rw [BitVec.lt_def, durMaxValue_toNat]; omega
  by_cases h : d.toNat = 65535
  · have hm : durMaxValue = d := BitVec.eq_of_toNat_eq h.symm
    simp [satinc, h, hm]
  · simp [satinc, hlt, h]

/-- The sampler's and the accumulator's operations together are part (a) of the handler (R126). -/
theorem commit_smp_acc (raw : Bool) (s : State) :
    s.commit ((opWrites (smpCase raw s) s).merge (opWrites (accCase raw s) s)) =
      sampleInput s raw := by
  have hc : s.cnt.val < 21 := s.cnt.isLt
  simp only [smpCase, accCase, sampleInput]
  cases raw with
  | false =>
    by_cases h0 : s.cnt.val = 0
    · cases hp : s.pressed <;> simp [h0] <;> rfl
    · simp [h0, Nat.pos_of_ne_zero h0]
      rfl
  | true =>
    by_cases h20 : s.cnt.val = 20
    · by_cases hd : s.dur.toNat = 65535 <;> simp [h20, hd, satinc_durMax] <;> rfl
    · have hlt : s.cnt.val < 20 := by omega
      by_cases h19 : s.cnt.val = 19
      · simp [h19]
        rfl
      · have hup : cntUp s.cnt = ⟨s.cnt.val + 1, by omega⟩ := Fin.ext (by simp; omega)
        simp [h20, h19, hlt, opWrites, smpUpWrites, hup]
        rfl

/-- What the driver and the phase counter assign in a TICK step: nothing in MODE_1, the toggle and the
wrap at the threshold, the increment below it (R227 to R233). -/
def patternWrites (s : State) : Writes :=
  if s.mode = .mode1 then {}
  else if s.thrHit then { lamp := some (!s.lamp), phase := some 0 }
  else { phase := some (s.phase + 1) }

theorem merge_drv_ph (s : State) :
    (opWrites (drvCase s) s).merge (opWrites (phCase s) s) = patternWrites s := by
  simp only [drvCase, phCase, patternWrites]
  cases s.mode with
  | mode1 => rfl
  | mode2 => cases s.thrHit <;> rfl
  | mode3 => cases s.lamp <;> cases s.thrHit <;> rfl

/-- The driver's and the phase counter's assignments are part (b) of the handler (R126). -/
theorem advancePattern_eq_commit (s : State) : advancePattern s = s.commit (patternWrites s) := by
  simp only [advancePattern, patternWrites]
  cases hm : s.mode with
  | mode1 => rfl
  | mode2 => cases ht : s.thrHit <;> simp [← thrHit_mode2 hm, ht, State.commit, hm]
  | mode3 =>
    cases hl : s.lamp with
    | true => cases ht : s.thrHit <;> simp [← thrHit_mode3_on hm hl, ht, State.commit, hm, hl]
    | false => cases ht : s.thrHit <;> simp [← thrHit_mode3_off hm hl, ht, State.commit, hm, hl]

/-- Sampling changes nothing that the driver or the phase counter reads. -/
theorem patternWrites_sampleInput (s : State) (raw : Bool) :
    patternWrites (sampleInput s raw) = patternWrites s := by
  simp [patternWrites, State.thrHit, State.thr, State.phaseNext]

theorem gather_tickOps (raw : Bool) (s : State) :
    gather (tickOps raw s) s = (patternWrites s).merge
      ((opWrites (smpCase raw s) s).merge (opWrites (accCase raw s) s)) := by
  obtain ⟨c, p, hsmp⟩ := opWrites_smpCase raw s
  obtain ⟨d, r, e, hacc⟩ := opWrites_accCase raw s
  obtain ⟨l, hdrv⟩ := opWrites_drvCase s
  obtain ⟨q, hph⟩ := opWrites_phCase s
  simp [tickOps_eq, gather, ← merge_drv_ph, hsmp, hacc, hdrv, hph, Writes.merge]

theorem exec_tick (raw : Bool) (s : State) : exec (.tick raw) s = .next (handler s raw) := by
  have hcommit : s.commit (gather (tickOps raw s) s) = handler s raw := by
    rw [gather_tickOps, State.commit_merge, commit_smp_acc, ← patternWrites_sampleInput s raw,
      ← advancePattern_eq_commit, handler]
  rw [← hcommit]
  rfl

/-! ### A CONSUME step is the consumer -/

theorem exec_consume (s : State) : exec .consume s = .next (consume s) := by
  cases h : s.releasePending with
  | false => simp [exec, execConsume, h, consume_eq_self h]
  | true =>
    have hl : decide (Config.LONG_PRESS_TICKS ≤ s.evDuration.toNat) = s.isLong :=
      Bool.eq_iff_iff.mpr (by simp [isLong_iff])
    simp only [exec, execConsume, consumeOps_eq h, consume, h, hl, clsCase, cnsCase, if_true]
    obtain ⟨_, _, _, _, _, mode, _, _, _, _, _⟩ := s
    generalize State.isLong _ = long
    cases mode <;> cases long <;> rfl

/-! ### What a clock cycle can do -/

/-- R121 with R122 to R128: a clock cycle is RESET, the handler or the consumer, which without an event
does nothing. -/
theorem clock_cases (w : Stim) (s : State) :
    (Stim.rst w = true ∧ clock w s = .next (s.commit resetWrites)) ∨
    (TickCycle w ∧ clock w s = .next (handler s (Stim.btnRaw w))) ∨
    (FreeCycle w ∧ clock w s = .next (consume s)) := by
  cases hr : Stim.rst w with
  | true => exact .inl ⟨rfl, clock_rst hr⟩
  | false =>
    cases ht : Stim.tick w with
    | true => exact .inr (.inl ⟨⟨hr, ht⟩, by rw [clock_tick hr ht, exec_tick]⟩)
    | false =>
      refine .inr (.inr ⟨⟨hr, ht⟩, ?_⟩)
      rw [clock_free hr ht, exec_consume]
      cases hp : s.releasePending with
      | true => rfl
      | false => rw [consume_eq_self hp]; rfl

/-- A cycle without a tick, a RESET or a free cycle, leaves no event pending. -/
theorem clock_releasePending_of_no_tick {w : Stim} {s t : State} (hw : Stim.tick w = false)
    (h : clock w s = .next t) : t.releasePending = false := by
  obtain ⟨-, hc⟩ | ⟨⟨-, ht⟩, -⟩ | ⟨-, hc⟩ := clock_cases w s
  · cases h.symm.trans hc
    rfl
  · simp [hw] at ht
  · cases h.symm.trans hc
    exact consume_releasePending s

/-! ### The register invariants in two halves -/

/-- The sampler's half of the invariants, R41 and R42. -/
def SamplerInv (s : State) : Prop :=
  (s.cnt.val = 20 → s.pressed = true) ∧ (s.pressed = false → s.dur = 0)

/-- The pattern's half of the invariants, R45 to R47. -/
def PatternInv (s : State) : Prop :=
  (s.mode = .mode1 → s.phase = 0 ∧ s.lamp = s.lampToggle) ∧
  (s.mode = .mode2 → s.phase.toNat ≤ 49) ∧
  (s.mode = .mode3 → (s.lamp = true → s.phase.toNat ≤ 99) ∧
    (s.lamp = false → s.phase.toNat ≤ 899))

/-- The other invariants, R40, R43 and R44, hold by the types of the registers. -/
theorem regInv_iff (s : State) : RegInv s ↔ SamplerInv s ∧ PatternInv s := by
  have hcnt : s.cnt.val ≤ 20 := Nat.le_of_lt_succ s.cnt.isLt
  have hdur : s.dur.toNat ≤ 65535 := Nat.le_of_lt_succ s.dur.isLt
  have hev : s.evDuration.toNat ≤ 65535 := Nat.le_of_lt_succ s.evDuration.isLt
  have hmode : s.mode.toNat = 1 ∨ s.mode.toNat = 2 ∨ s.mode.toNat = 3 := by
    cases s.mode <;> decide
  simp only [RegInv, SamplerInv, PatternInv, hcnt, hdur, hev, hmode, true_and, and_assoc]

theorem regInv_advance (s : State) : RegInv s.advance ↔ RegInv s := by
  simp [RegInv]

theorem samplerInv_advancePattern (s : State) : SamplerInv (advancePattern s) ↔ SamplerInv s := by
  simp [SamplerInv]

theorem samplerInv_consume (s : State) : SamplerInv (consume s) ↔ SamplerInv s := by
  simp [SamplerInv]

theorem patternInv_sampleInput (s : State) (raw : Bool) :
    PatternInv (sampleInput s raw) ↔ PatternInv s := by
  simp [PatternInv]

/-- The count reaches 20 only where `pressed` is set, `pressed` is cleared only where `dur` is, and
`dur` counts only at 20. -/
theorem samplerInv_sampleInput {s : State} (h : SamplerInv s) (raw : Bool) :
    SamplerInv (sampleInput s raw) := by
  have hc : s.cnt.val < 21 := s.cnt.isLt
  obtain ⟨hpressed, hdur⟩ := h
  simp only [SamplerInv, sampleInput]
  cases raw with
  | false =>
    by_cases h0 : s.cnt.val = 0
    · cases hp : s.pressed <;> simp [h0, hp, hdur]
    · have hdown : s.cnt.val - 1 ≠ 20 := by omega
      simpa [Nat.pos_of_ne_zero h0, hdown] using hdur
  | true =>
    by_cases h20 : s.cnt.val = 20
    · simp [h20, hpressed h20]
    · have hlt : s.cnt.val < 20 := by omega
      by_cases h19 : s.cnt.val = 19
      · simp [h19]
      · simpa [hlt, h19] using hdur

theorem advancePattern_of_mode1 {s : State} (hm : s.mode = .mode1) : advancePattern s = s := by
  simp [advancePattern_eq_commit, patternWrites, hm]

theorem advancePattern_of_thrHit {s : State} (ht : s.thrHit = true) :
    advancePattern s = { s with lamp := !s.lamp, phase := 0 } := by
  have hm : s.mode ≠ .mode1 := fun hm => by simp [thrHit_mode1 hm] at ht
  simp [advancePattern_eq_commit, patternWrites, hm, ht, State.commit]

theorem advancePattern_of_not_thrHit {s : State} (hm : s.mode ≠ .mode1) (ht : s.thrHit = false) :
    advancePattern s = { s with phase := s.phase + 1 } := by
  simp [advancePattern_eq_commit, patternWrites, hm, ht, State.commit]

/-- Outside MODE_1 the threshold keeps the phase in its window: a tick at the threshold clears it, and
one below leaves it below. -/
theorem patternInv_advancePattern {s : State} (h : PatternInv s) :
    PatternInv (advancePattern s) := by
  by_cases hm1 : s.mode = .mode1
  · rwa [advancePattern_of_mode1 hm1]
  cases ht : s.thrHit with
  | true => simp [advancePattern_of_thrHit ht, PatternInv, hm1]
  | false =>
    have hle : (s.phase + 1).toNat ≤ s.phase.toNat + 1 := by
      rw [BitVec.toNat_add]; exact Nat.mod_le _ _
    rw [advancePattern_of_not_thrHit hm1 ht]
    refine ⟨fun hm => absurd hm hm1, fun hm => ?_, fun hm => ⟨fun hl => ?_, fun hl => ?_⟩⟩
    · have hlt := mt (thrHit_mode2 (s := s) hm).mpr (by simp [ht])
      exact Nat.le_trans hle (by omega)
    · have hlt := mt (thrHit_mode3_on (s := s) hm hl).mpr (by simp [ht])
      exact Nat.le_trans hle (by omega)
    · have hlt := mt (thrHit_mode3_off (s := s) hm hl).mpr (by simp [ht])
      exact Nat.le_trans hle (by omega)

/-- A long press enters its mode at phase 0, MODE_1 with both levels ON; a short press writes at most
the two levels of MODE_1, and the same value to both. -/
theorem patternInv_consume {s : State} (h : PatternInv s) : PatternInv (consume s) := by
  obtain ⟨h1, h2, h3⟩ := h
  unfold consume
  split
  · dsimp only
    split <;> simp_all [PatternInv]
  · exact ⟨h1, h2, h3⟩

theorem regInv_handler {s : State} (h : RegInv s) (raw : Bool) : RegInv (handler s raw) := by
  obtain ⟨hsmp, hpat⟩ := (regInv_iff s).mp h
  exact (regInv_iff _).mpr
    ⟨(samplerInv_advancePattern _).mpr (samplerInv_sampleInput hsmp raw),
      patternInv_advancePattern ((patternInv_sampleInput s raw).mpr hpat)⟩

theorem regInv_consume {s : State} (h : RegInv s) : RegInv (consume s) := by
  obtain ⟨hsmp, hpat⟩ := (regInv_iff s).mp h
  exact (regInv_iff _).mpr ⟨(samplerInv_consume s).mpr hsmp, patternInv_consume hpat⟩

/-- Settles O2, by evaluating the invariants at the one state. -/
theorem resetMeetsTheInvariants : Obligations.ResetMeetsTheInvariants := by
  unfold Obligations.ResetMeetsTheInvariants
  decide

theorem clock_regInv (w : Stim) {s : State} (h : RegInv s) :
    ∃ t, clock w s = .next t ∧ RegInv t := by
  obtain ⟨-, hc⟩ | ⟨-, hc⟩ | ⟨-, hc⟩ := clock_cases w s
  · exact ⟨_, hc, resetMeetsTheInvariants⟩
  · exact ⟨_, hc, regInv_handler h _⟩
  · exact ⟨_, hc, regInv_consume h⟩

/-- Settles O3: RESET gives the reset state's registers, and the handler and the consumer keep both
halves of the invariants; a step is a clock cycle with the same registers. -/
theorem everyStepKeepsTheInvariants : Obligations.EveryStepKeepsTheInvariants := by
  unfold Obligations.EveryStepKeepsTheInvariants
  refine ⟨fun w s h => clock_regInv w h, fun s h => ?_⟩
  rw [step_eq_clock]
  exact clock_regInv _ ((regInv_advance s).mpr h)

/-- The last clause of R47. -/
theorem phase_le_of_regInv {s : State} (h : RegInv s) : s.phase.toNat ≤ 899 := by
  obtain ⟨-, h1, h2, h3⟩ := (regInv_iff s).mp h
  cases hm : s.mode with
  | mode1 =>
    obtain ⟨hphase, -⟩ := h1 hm
    simp [hphase]
  | mode2 => exact Nat.le_trans (h2 hm) (by decide)
  | mode3 =>
    obtain ⟨hon, hoff⟩ := h3 hm
    cases hl : s.lamp with
    | true => exact Nat.le_trans (hon hl) (by decide)
    | false => exact hoff hl

/-- Settles O4, by O3's invariants after the cycle. -/
theorem phaseNeverExceeds899 : Obligations.PhaseNeverExceeds899 := by
  unfold Obligations.PhaseNeverExceeds899
  intro w s h
  obtain ⟨t, ht, hinv⟩ := clock_regInv w h
  exact ⟨t, ht, phase_le_of_regInv hinv⟩

/-! ### The writers of each register -/

/-- Settles O16: which registers an operation assigns depends on the operation alone, so for each
register and each operation both sides of the equivalence are computed. -/
theorem eachRegisterHasItsWriters : Obligations.EachRegisterHasItsWriters := by
  unfold Obligations.EachRegisterHasItsWriters
  intro i s
  refine ⟨?_, ?_, ?_, ?_, ?_, ?_, ?_, ?_, ?_⟩ <;>
    rw [← decide_eq_true_iff (p := i ∈ _), ← Bool.eq_iff_iff] <;> cases i <;> rfl

/-! ### Spaced ticks -/

/-- R48 from any point of a spaced script: `blocked` says that a tick has gone by and no free cycle
after it, and only then may an event be pending. -/
theorem spacedFrom_releasePending {ws : List Stim} {w : Stim} {blocked : Bool} {s : State}
    (hs : blocked = false → s.releasePending = false)
    (hsp : spacedFrom blocked (ws ++ [w]) = true) (hw : Stim.tick w = true) :
    ∃ t, runScript ws s = .next t ∧ t.releasePending = false := by
  induction ws generalizing blocked s with
  | nil => exact ⟨s, rfl, hs (by simpa [spacedFrom, hw] using hsp)⟩
  | cons u us ih =>
    obtain ⟨t, ht, -⟩ := clock_total u s
    rw [runScript_cons us ht]
    cases hu : Stim.tick u with
    | true =>
      obtain ⟨-, hrest⟩ : blocked = false ∧ spacedFrom true (us ++ [w]) = true := by
        simpa [spacedFrom, hu] using hsp
      exact ih (fun hb => by cases hb) hrest
    | false =>
      have hrest : spacedFrom (blocked && Stim.rst u) (us ++ [w]) = true := by
        simpa [spacedFrom, hu] using hsp
      exact ih (fun _ => clock_releasePending_of_no_tick hu ht) hrest

/-- Settles O48: by induction on the script; without the spacing, the tick that releases a held button
leaves its event pending for the next one. -/
theorem spacedTicksNeverFindAnEventPending : Obligations.SpacedTicksNeverFindAnEventPending := by
  unfold Obligations.SpacedTicksNeverFindAnEventPending
  constructor
  · intro ws w s hs hsp hw
    exact spacedFrom_releasePending (fun _ => hs) hsp hw
  · exact ⟨2, 2, { State.reset with pressed := true }, _, by decide, rfl, by decide, by decide,
      rfl, rfl⟩

/-! ### The board -/

/-- The ports of a stimulus word put together from three levels (R84). -/
theorem stim_ports (r t b : Bool) :
    Stim.rst (BitVec.ofBool r ++ BitVec.ofBool t ++ BitVec.ofBool b) = r ∧
    Stim.tick (BitVec.ofBool r ++ BitVec.ofBool t ++ BitVec.ofBool b) = t ∧
    Stim.btnRaw (BitVec.ofBool r ++ BitVec.ofBool t ++ BitVec.ofBool b) = b := by
  revert r t b; decide

/-- Settles O54: the core's cycle always answers a next state, and the wrapper's word carries its three
levels on the ports. -/
theorem boardCycleIsTheCoreCycle : Obligations.BoardCycleIsTheCoreCycle := by
  unfold Obligations.BoardCycleIsTheCoreCycle
  intro tickDiv rst btnN b
  obtain ⟨t, ht, -⟩ := clock_total (b.wrapper.stim tickDiv rst) b.core
  exact ⟨t, ht, by simp [Board.clock, ht], stim_ports _ _ _⟩

end Sys2Proof.Machine
end

section
/-!
SUPPORT. Proofs of the statements on 30_encoding.md. The decoder is one function a select vector, so
the agreement of decoder and patterns is one lemma a vector. Then the written words, the step that
runs the decoded operation, ignored inputs, schedules, strobes, the state vector and staged
operations.
-/

namespace Sys2Proof

/-! ### Each vector's decoder chooses by the patterns of its table

The operation map is finite: for each operation, whose pattern is a fixed mask and value, every value
of the vector is computed. An operation of another vector has another slot, so neither side holds. -/

/-- Step select, R85. -/
theorem decodeStepsel_eq_iff (v : BitVec 3) (btnRaw : Bool) (i : Instr) :
    decodeStepsel v btnRaw = i ↔ (SelectWord.stepsel v btnRaw).fitsPattern i = true := by
  cases i <;> decide +revert

/-- Sampler select, R86. -/
theorem decodeSsel_eq_iff (v : BitVec 5) (i : Instr) :
    decodeSsel v = i ↔ (SelectWord.ssel v).fitsPattern i = true := by
  cases i <;> decide +revert

/-- Accumulator select, R87. -/
theorem decodeAsel_eq_iff (v : BitVec 3) (i : Instr) :
    decodeAsel v = i ↔ (SelectWord.asel v).fitsPattern i = true := by
  cases i <;> decide +revert

/-- Consumer select as the classifier reads it, R88. -/
theorem decodeCls_eq_iff (v : BitVec 3) (i : Instr) :
    decodeCls v = i ↔ (SelectWord.cselCls v).fitsPattern i = true := by
  cases i <;> decide +revert

/-- Consumer select as the mode machine reads it, R88; `x00` fits no pattern. -/
theorem decodeCns_eq_some_iff (v : BitVec 3) (i : Instr) :
    decodeCns v = some i ↔ (SelectWord.cselCns v).fitsPattern i = true := by
  cases i <;> decide +revert

/-- Phase-counter select, R89. -/
theorem decodePsel_eq_iff (v : BitVec 3) (i : Instr) :
    decodePsel v = i ↔ (SelectWord.psel v).fitsPattern i = true := by
  cases i <;> decide +revert

/-- Driver select, R90; `00xx` fits no pattern. -/
theorem decodeDsel_eq_some_iff (v : BitVec 4) (i : Instr) :
    decodeDsel v = some i ↔ (SelectWord.dsel v).fitsPattern i = true := by
  cases i <;> decide +revert

/-! ### The whole decoder -/

theorem decode_cselCns_eq_ok_iff (v : BitVec 3) (i : Instr) :
    decode (.cselCns v) = .ok i ↔ decodeCns v = some i := by
  simp only [decode]
  cases decodeCns v <;> simp

theorem decode_dsel_eq_ok_iff (v : BitVec 4) (i : Instr) :
    decode (.dsel v) = .ok i ↔ decodeDsel v = some i := by
  simp only [decode]
  cases decodeDsel v <;> simp

theorem decode_eq_ok_iff_fitsPattern (w : SelectWord) (i : Instr) :
    decode w = .ok i ↔ w.fitsPattern i = true := by
  cases w with
  | stepsel v b => rw [decode, Except.ok.injEq, decodeStepsel_eq_iff]
  | ssel v => rw [decode, Except.ok.injEq, decodeSsel_eq_iff]
  | asel v => rw [decode, Except.ok.injEq, decodeAsel_eq_iff]
  | cselCls v => rw [decode, Except.ok.injEq, decodeCls_eq_iff]
  | cselCns v => rw [decode_cselCns_eq_ok_iff, decodeCns_eq_some_iff]
  | psel v => rw [decode, Except.ok.injEq, decodePsel_eq_iff]
  | dsel v => rw [decode_dsel_eq_ok_iff, decodeDsel_eq_some_iff]

theorem decode_encode (i : Instr) : decode (encode i) = .ok i := by
  cases i <;> rfl

theorem exists_decodeCns_of_possible (v : BitVec 3)
    (h : (SelectWord.cselCns v).possible = true) : ∃ i, decodeCns v = some i := by
  rw [← Option.isSome_iff_exists]
  decide +revert

theorem exists_decodeDsel_of_possible (v : BitVec 4)
    (h : (SelectWord.dsel v).possible = true) : ∃ i, decodeDsel v = some i := by
  rw [← Option.isSome_iff_exists]
  decide +revert

/-- R95: the values that encode no mode, the ones refused, are not possible. -/
theorem exists_decode_of_possible (w : SelectWord) (h : w.possible = true) :
    ∃ i, decode w = .ok i := by
  cases w with
  | stepsel v b => exact ⟨_, rfl⟩
  | ssel v => exact ⟨_, rfl⟩
  | asel v => exact ⟨_, rfl⟩
  | cselCls v => exact ⟨_, rfl⟩
  | cselCns v =>
    simp only [decode_cselCns_eq_ok_iff]
    exact exists_decodeCns_of_possible v h
  | psel v => exact ⟨_, rfl⟩
  | dsel v =>
    simp only [decode_dsel_eq_ok_iff]
    exact exists_decodeDsel_of_possible v h

/-- Settles O5: the encoder by its rows, the patterns vector by vector, and the refused values are
not possible ones. -/
theorem decodeAndEncodeAgree : Obligations.DecodeAndEncodeAgree :=
  ⟨decode_encode, decode_eq_ok_iff_fitsPattern, exists_decode_of_possible⟩

/-- Settles O6, by computing the decoder on each word. -/
theorem writtenWordsDecode : Obligations.WrittenWordsDecode :=
  ⟨rfl, rfl, rfl, rfl, rfl, rfl, rfl, rfl, rfl, rfl, rfl, rfl, rfl, rfl, rfl, rfl, rfl, rfl, rfl,
    rfl, rfl⟩

end Sys2Proof

namespace Sys2Proof.Machine

/-! ### A step runs the decoded operation -/

theorem decode_stepWord (w : Stim) (s : State) : decode (stepWord w s) = .ok (selectStep w s) := rfl

theorem selectStep_advance (w : Stim) (s : State) : selectStep w s.advance = selectStep w s := by
  simp only [selectStep_eq, State.advance_releasePending]

theorem step_eq_exec_selectStep (s : State) : step s = exec (selectStep s.stim s) s.advance := by
  rw [step_eq_clock, clock, selectStep_advance]

theorem stim_of_script_cons {s : State} {w : Stim} {ws : List Stim} (h : s.script = w :: ws) :
    s.stim = w := by
  simp only [State.stim, h]

theorem advance_of_script_cons {s : State} {w : Stim} {ws : List Stim} (h : s.script = w :: ws) :
    s.advance = s.withScript ws := by
  simp only [State.advance, h]

theorem stim_of_script_nil {s : State} (h : s.script = []) :
    s.stim = Config.freeStimulus s.freeCycles := by
  simp only [State.stim, h]

theorem advance_of_script_nil {s : State} (h : s.script = []) :
    s.advance = { s with freeCycles := s.freeCycles + 1 } := by
  simp only [State.advance, h]

/-- Settles O7: the decoded operation is the selected one, and taking the stimulus word leaves the
selection as it is. -/
theorem stepRunsTheDecodedOperation : Obligations.StepRunsTheDecodedOperation := by
  unfold Obligations.StepRunsTheDecodedOperation
  refine ⟨fun s i h => ?_, fun s w ws h => ?_, fun s h => ?_⟩
  · rw [decode_stepWord, Except.ok.injEq] at h
    rw [step_eq_exec_selectStep, h]
  · exact ⟨stim_of_script_cons h, advance_of_script_cons h⟩
  · exact ⟨stim_of_script_nil h, advance_of_script_nil h⟩

/-! ### Ignored inputs -/

/-- Settles O18: the outcome of a RESET cycle, and that of a free cycle, is written without the
stimulus word. -/
theorem ignoredInputsChangeNothing : Obligations.IgnoredInputsChangeNothing := by
  unfold Obligations.IgnoredInputsChangeNothing
  rintro w w' s (⟨hr, hr'⟩ | ⟨⟨hr, ht⟩, hr', ht'⟩)
  · rw [clock_rst hr, clock_rst hr']
  · rw [clock_free hr ht, clock_free hr' ht']

/-! ### Steps along a schedule -/

theorem State.commit_withScript (s : State) (ws : List Stim) (u : Writes) :
    (s.withScript ws).commit u = (s.commit u).withScript ws := rfl

theorem tickOps_withScript (raw : Bool) (s : State) (ws : List Stim) :
    tickOps raw (s.withScript ws) = tickOps raw s := rfl

theorem consumeOps_withScript (s : State) (ws : List Stim) :
    consumeOps (s.withScript ws) = consumeOps s := rfl

theorem opWrites_withScript (i : Instr) (s : State) (ws : List Stim) :
    opWrites i (s.withScript ws) = opWrites i s := by
  cases i <;> rfl

theorem gather_withScript (ops : List Instr) (s : State) (ws : List Stim) :
    gather ops (s.withScript ws) = gather ops s := by
  induction ops with
  | nil => rfl
  | cons i ops ih => simp only [gather, opWrites_withScript, ih]

/-- No operation reads or writes the schedule. -/
theorem exec_withScript {i : Instr} {s t : State} (ws : List Stim) (h : exec i s = .next t) :
    exec i (s.withScript ws) = .next (t.withScript ws) := by
  cases i
  case tick raw =>
    cases h
    simp only [exec, execTick, gather_withScript, tickOps_withScript, State.commit_withScript]
  case consume =>
    simp only [exec, execConsume, gather_withScript, consumeOps_withScript,
      State.commit_withScript, State.withScript_releasePending] at h ⊢
    split at h <;> rename_i hp <;> cases h <;> simp [hp]
  all_goals cases h; rfl

theorem clock_withScript {w : Stim} {s t : State} (ws : List Stim) (h : clock w s = .next t) :
    clock w (s.withScript ws) = .next (t.withScript ws) := exec_withScript ws h

theorem step_withScript_cons {w : Stim} {s t : State} (ws : List Stim) (h : clock w s = .next t) :
    step (s.withScript (w :: ws)) = .next (t.withScript ws) := by
  rw [step_eq_clock, stim_withScript_cons, advance_withScript_cons, clock_withScript ws h]

theorem core_run_succ {s t : State} (k : Nat) (h : step s = .next t) :
    Host.Core.run core (k + 1) s = Host.Core.run core k t := by
  have hs : core.step s = .next t := h
  simp only [Host.Core.run, hs]

/-- Settles O19: by induction on the script; a clock cycle gives the same registers whatever is
scheduled, so the two runs take the same cycles. -/
theorem stepsFollowTheSchedule : Obligations.StepsFollowTheSchedule := by
  unfold Obligations.StepsFollowTheSchedule
  intro ws rest s
  induction ws generalizing s with
  | nil => exact ⟨_, rfl, rfl⟩
  | cons w ws ih =>
    obtain ⟨t, ht, -⟩ := clock_total w s
    obtain ⟨u, hscript, hcore⟩ := ih t
    refine ⟨u, ?_, ?_⟩
    · rw [runScript_cons ws (clock_withScript rest ht), hscript]
    · rw [List.cons_append, List.length_cons, core_run_succ _ (step_withScript_cons _ ht), hcore]

/-! ### The strobes -/

theorem selectStep_eq_consume_iff (w : Stim) (s : State) :
    selectStep w s = .consume ↔ consumeFire w s = true := by
  rw [selectStep_eq, consumeFire]
  cases Stim.rst w <;> cases Stim.tick w <;> cases s.releasePending <;> simp

theorem evShort_or_evLong_iff (w : Stim) (s : State) :
    (evShort w s = true ∨ evLong w s = true) ↔ consumeFire w s = true := by
  unfold evShort evLong
  cases s.isLong <;> simp

theorem not_evShort_and_evLong (w : Stim) (s : State) :
    ¬(evShort w s = true ∧ evLong w s = true) := by
  unfold evShort evLong
  cases s.isLong <;> simp

/-- Settles O34: the two strobes are `consume_fire` split by `is_long`. -/
theorem strobesMarkTheConsumeCycle : Obligations.StrobesMarkTheConsumeCycle := by
  unfold Obligations.StrobesMarkTheConsumeCycle
  intro w s
  rw [selectStep_eq_consume_iff]
  exact ⟨evShort_or_evLong_iff w s, not_evShort_and_evLong w s, rfl⟩

/-! ### The state vector -/

theorem append_eq_append_iff {m n : Nat} {x x' : BitVec m} {y y' : BitVec n} :
    x ++ y = x' ++ y' ↔ x = x' ∧ y = y' := by
  refine ⟨fun h => ⟨?_, ?_⟩, fun ⟨hx, hy⟩ => by rw [hx, hy]⟩
  · simpa only [BitVec.extractLsb'_append_eq_left] using congrArg (BitVec.extractLsb' n m) h
  · simpa only [BitVec.setWidth_append_eq_right] using congrArg (BitVec.setWidth n) h

theorem modeBits_inj {m m' : Mode} : m.bits = m'.bits ↔ m = m' := by
  cases m <;> cases m' <;> decide

/-- Five bits hold every count. -/
theorem ofNat_cnt_inj {c c' : Cnt} : BitVec.ofNat 5 c.val = BitVec.ofNat 5 c'.val ↔ c = c' := by
  have hc : c.val < 21 := c.isLt
  have hc' : c'.val < 21 := c'.isLt
  rw [← BitVec.toNat_inj, BitVec.toNat_ofNat, BitVec.toNat_ofNat, Fin.ext_iff]
  omega

/-- Settles O49: equal vectors are taken apart a field at a time, from the last, and each field's
encoding is one to one. -/
theorem stateVectorHoldsEveryRegister : Obligations.StateVectorHoldsEveryRegister := by
  unfold Obligations.StateVectorHoldsEveryRegister
  refine ⟨fun s t h => ?_, by decide⟩
  obtain ⟨h, hlamp⟩ := append_eq_append_iff.mp h
  obtain ⟨h, hphase⟩ := append_eq_append_iff.mp h
  obtain ⟨h, htoggle⟩ := append_eq_append_iff.mp h
  obtain ⟨h, hmode⟩ := append_eq_append_iff.mp h
  obtain ⟨h, hev⟩ := append_eq_append_iff.mp h
  obtain ⟨h, hpending⟩ := append_eq_append_iff.mp h
  obtain ⟨h, hdur⟩ := append_eq_append_iff.mp h
  obtain ⟨hcnt, hpressed⟩ := append_eq_append_iff.mp h
  simp only [BitVec.ofBool_eq_iff_eq] at hpressed hpending htoggle hlamp
  exact ⟨ofNat_cnt_inj.mp hcnt, hpressed, hdur, hpending, hev, modeBits_inj.mp hmode, htoggle,
    hphase, hlamp⟩

/-! ### Staged operations -/

/-- The operation is the step of a cycle with stimulus `w`, or that step selects it (R99). -/
def Performed (i : Instr) (w : Stim) (s : State) : Prop :=
  i = selectStep w s ∨ i ∈ stepOps (selectStep w s) s

theorem selectStep_tickStim (raw : Bool) (s : State) : selectStep (tickStim raw) s = .tick raw := by
  simp [selectStep_eq]

theorem selectStep_idleStim_of_pending {s : State} (h : s.releasePending = true) :
    selectStep idleStim s = .consume := by
  simp [selectStep_eq, h]

theorem selectStep_idleStim_of_not_pending {s : State} (h : s.releasePending = false) :
    selectStep idleStim s = .hold := by
  simp [selectStep_eq, h]

/-- The operations of a TICK step (R124). -/
theorem performed_of_mem_tick {i : Instr} {raw : Bool} {s : State}
    (h : i ∈ [smpCase raw s, accCase raw s, drvCase s, phCase s]) : Performed i (tickStim raw) s := by
  rw [Performed, selectStep_tickStim, stepOps, tickOps_eq]
  exact .inr h

/-- The operations of a CONSUME step (R125). -/
theorem performed_of_mem_consume {i : Instr} {s : State} (hp : s.releasePending = true)
    (h : i ∈ [clsCase s, cnsCase s, if s.isLong then .phMclr else .phHold]) :
    Performed i idleStim s := by
  rw [Performed, selectStep_idleStim_of_pending hp, stepOps, consumeOps_eq hp]
  exact .inr h

theorem performed_staged_of_slot_step {i : Instr} (h : (encode i).slot = .step) (s : State) :
    Performed i (stagedStim i) (s.staged i) := by
  left
  cases i <;> cases h
  case reset => simp [selectStep_eq, stagedStim, Stim.rst]
  case hold => exact (selectStep_idleStim_of_not_pending rfl).symm
  case tick raw => exact (selectStep_tickStim raw _).symm
  case consume => exact (selectStep_idleStim_of_pending rfl).symm

/-- SMP_UP and SMP_DOWN keep a count that already meets their pattern; the others stage a fixed one. -/
theorem smpCase_staged {i : Instr} (h : (encode i).slot = .smp) (s : State) :
    ∃ raw, stagedStim i = tickStim raw ∧ smpCase raw (s.staged i) = i := by
  cases i <;> cases h
  case smpUp =>
    have hlt : (s.staged .smpUp).cnt.val < 19 := by
      change (if s.cnt.val < 19 then s.cnt else 0).val < 19
      split
      · assumption
      · decide
    have h19 : (s.staged .smpUp).cnt.val ≠ 19 := by omega
    have h20 : (s.staged .smpUp).cnt.val ≠ 20 := by omega
    exact ⟨true, rfl, by simp [smpCase, h19, h20]⟩
  case smpDown =>
    have h0 : (s.staged .smpDown).cnt.val ≠ 0 := by
      change (if 0 < s.cnt.val then s.cnt else 1).val ≠ 0
      split
      · omega
      · decide
    exact ⟨false, rfl, by simp [smpCase, h0]⟩
  all_goals exact ⟨_, rfl, rfl⟩

theorem accCase_staged {i : Instr} (h : (encode i).slot = .acc) (s : State) :
    ∃ raw, stagedStim i = tickStim raw ∧ accCase raw (s.staged i) = i := by
  cases i <;> cases h <;> exact ⟨_, rfl, rfl⟩

theorem drvCase_staged {i : Instr} (h : (encode i).slot = .drv) (s : State) :
    stagedStim i = tickStim false ∧ drvCase (s.staged i) = i := by
  cases i <;> cases h <;> exact ⟨rfl, rfl⟩

theorem clsCase_staged {i : Instr} (h : (encode i).slot = .cls) (s : State) :
    stagedStim i = idleStim ∧ (s.staged i).releasePending = true ∧ clsCase (s.staged i) = i := by
  cases i <;> cases h <;> exact ⟨rfl, rfl, rfl⟩

theorem cnsCase_staged {i : Instr} (h : (encode i).slot = .cns) (s : State) :
    stagedStim i = idleStim ∧ (s.staged i).releasePending = true ∧ cnsCase (s.staged i) = i := by
  cases i <;> cases h <;> exact ⟨rfl, rfl, rfl⟩

/-- The phase counter has an operation in the steps of three kinds. -/
theorem performed_staged_of_slot_ph {i : Instr} (h : (encode i).slot = .ph) (s : State) :
    Performed i (stagedStim i) (s.staged i) := by
  cases i <;> cases h
  case phHold =>
    rw [Performed, stagedStim, selectStep_idleStim_of_not_pending rfl]
    exact .inr (List.mem_singleton_self _)
  case phMclr => exact performed_of_mem_consume rfl (.tail _ (.tail _ (.head _)))
  case phInc | phWrap => exact performed_of_mem_tick (.tail _ (.tail _ (.tail _ (.head _))))

theorem performed_staged (i : Instr) (s : State) : Performed i (stagedStim i) (s.staged i) := by
  cases h : (encode i).slot with
  | step => exact performed_staged_of_slot_step h s
  | smp =>
    obtain ⟨raw, hw, hi⟩ := smpCase_staged h s
    rw [hw]
    exact performed_of_mem_tick (by simp [hi])
  | acc =>
    obtain ⟨raw, hw, hi⟩ := accCase_staged h s
    rw [hw]
    exact performed_of_mem_tick (by simp [hi])
  | cls =>
    obtain ⟨hw, hp, hi⟩ := clsCase_staged h s
    rw [hw]
    exact performed_of_mem_consume hp (by simp [hi])
  | cns =>
    obtain ⟨hw, hp, hi⟩ := cnsCase_staged h s
    rw [hw]
    exact performed_of_mem_consume hp (by simp [hi])
  | ph => exact performed_staged_of_slot_ph h s
  | drv =>
    obtain ⟨hw, hi⟩ := drvCase_staged h s
    rw [hw]
    exact performed_of_mem_tick (by simp [hi])

/-- Settles O20: the stimulus word of the staged state is the operation's, and block by block the
staged registers make the block's case that operation. -/
theorem stagedOperationIsPerformed : Obligations.StagedOperationIsPerformed := by
  unfold Obligations.StagedOperationIsPerformed
  intro i s
  obtain ⟨t, ht, -⟩ := clock_total (s.staged i).stim (s.staged i).advance
  exact ⟨performed_staged i s, t, ht⟩

end Sys2Proof.Machine
end

section
/-!
SUPPORT. Proofs of the statements on 40_tick_step.md. A tick cycle is the handler and a free cycle is
the consumer, so cycles without reset or tick change nothing once no event is pending, and a tick with
its slot is `tickStep`. Then what the handler does to the event registers, and which operations of the
sub-blocks go together in a TICK step and in a CONSUME step.
-/

namespace Sys2Proof.Machine

/-! ### Tick cycles and free cycles -/

theorem clock_of_tickCycle {w : Stim} (h : TickCycle w) (s : State) :
    clock w s = .next (handler s (Stim.btnRaw w)) := by
  obtain ⟨hr, ht⟩ := h
  rw [clock_tick hr ht, exec_tick]

theorem clock_of_freeCycle {w : Stim} (h : FreeCycle w) (s : State) :
    clock w s = .next (consume s) := by
  obtain ⟨hr, ht⟩ := h
  rw [clock_free hr ht, exec_consume]
  cases hp : s.releasePending with
  | true => rfl
  | false => rw [consume_eq_self hp]; rfl

theorem clock_eq_self_of_freeCycle {w : Stim} {s : State} (h : FreeCycle w)
    (hp : s.releasePending = false) : clock w s = .next s := by
  rw [clock_of_freeCycle h, consume_eq_self hp]

/-- R123: HOLD steps change nothing, however many. -/
theorem runScript_of_freeCycles {ws : List Stim} {s : State} (h : ∀ w ∈ ws, FreeCycle w)
    (hp : s.releasePending = false) : runScript ws s = .next s := by
  induction ws with
  | nil => rfl
  | cons w ws ih =>
    obtain ⟨hw, hws⟩ := List.forall_mem_cons.mp h
    rw [runScript_cons ws (clock_eq_self_of_freeCycle hw hp), ih hws]

/-- R128: the first cycle of the slot consumes, and the others hold. -/
theorem runScript_of_tick_slot {w x : Stim} {xs : List Stim} (hw : TickCycle w)
    (hx : FreeCycle x) (hxs : ∀ y ∈ xs, FreeCycle y) (s : State) :
    runScript (w :: x :: xs) s = .next (tickStep s (Stim.btnRaw w)) := by
  rw [runScript_cons _ (clock_of_tickCycle hw s), runScript_cons _ (clock_of_freeCycle hx _)]
  exact runScript_of_freeCycles hxs (consume_releasePending _)

theorem scriptTicks_cons (raw : Bool) (raws : List Bool) :
    scriptTicks (raw :: raws) = [tickStim raw, idleStim] ++ scriptTicks raws := by
  cases raw <;> rfl

theorem runScript_scriptTicks (raws : List Bool) (s : State) :
    runScript (scriptTicks raws) s = .next (ticks s raws) := by
  induction raws generalizing s with
  | nil => rfl
  | cons raw raws ih =>
    have hslot : runScript [tickStim raw, idleStim] s = .next (tickStep s raw) := by
      simpa using runScript_of_tick_slot (xs := []) ⟨tickStim_rst raw, tickStim_tick raw⟩
        ⟨idleStim_rst, idleStim_tick⟩ (by simp) s
    rw [scriptTicks_cons, runScript_append _ hslot, ih, ticks_cons]

/-- Settles O17: the slot's first cycle is the consumer and leaves no event, so the rest of the slot
holds; the script of ticks by induction on the raw levels. -/
theorem tickThenSlotIsTickStep : Obligations.TickThenSlotIsTickStep := by
  unfold Obligations.TickThenSlotIsTickStep
  refine ⟨fun w ws s hw hne hws => ?_, runScript_scriptTicks⟩
  cases ws with
  | nil => exact absurd rfl hne
  | cons x xs =>
    obtain ⟨hx, hxs⟩ := List.forall_mem_cons.mp hws
    exact runScript_of_tick_slot hw hx hxs s

/-! ### The phase counter in a free cycle -/

/-- `psel` reads only `rst` and `tick` of the stimulus word. -/
theorem psel_of_freeCycle {w : Stim} (h : FreeCycle w) (s : State) :
    psel w s = psel idleStim s := by
  obtain ⟨hr, ht⟩ := h
  simp [psel, mclr, evLong, consumeFire, incEn, wrap, tickFire, hr, ht]

theorem decodePsel_of_freeCycle {w : Stim} (h : FreeCycle w) (s : State) :
    decodePsel (psel w s) = if s.releasePending && s.isLong then .phMclr else .phHold := by
  rw [psel_of_freeCycle h, decodePsel_idle]

theorem selectStep_of_freeCycle {w : Stim} (h : FreeCycle w) (s : State) :
    selectStep w s = if s.releasePending then .consume else .hold := by
  obtain ⟨hr, ht⟩ := h
  simp [selectStep_eq, hr, ht]

/-- Settles O10: HOLD's one operation assigns nothing, and without an event every free cycle is HOLD. -/
theorem holdChangesNothing : Obligations.HoldChangesNothing := by
  unfold Obligations.HoldChangesNothing
  refine ⟨fun s => rfl, fun ws s hp hws => ⟨runScript_of_freeCycles hws hp, fun w hw => ?_⟩⟩
  simp [selectStep_of_freeCycle (hws w hw), decodePsel_of_freeCycle (hws w hw), hp]

/-! ### TICK and CONSUME as functions -/

/-- Settles O11: the gathered assignments commit part (a) and then part (b) of the handler. -/
theorem tickIsHandler : Obligations.TickIsHandler := exec_tick

/-- Settles O12, mode by mode and by the kind of the press. -/
theorem consumeIsConsumeFunction : Obligations.ConsumeIsConsumeFunction := exec_consume

/-! ### The event registers in a TICK step -/

theorem releaseStb_tickStim (raw : Bool) (s : State) :
    releaseStb (tickStim raw) s = (!raw && s.cntZero && s.pressed) := by
  simp [releaseStb, tickFire]

/-- A sample publishes the accumulated duration exactly when the release strobe is raised (R149). -/
theorem sampleInput_event (s : State) (raw : Bool) :
    (sampleInput s raw).releasePending = (s.releasePending || releaseStb (tickStim raw) s) ∧
    (sampleInput s raw).evDuration =
      if releaseStb (tickStim raw) s then s.dur else s.evDuration := by
  simp only [releaseStb_tickStim, State.cntZero, sampleInput]
  cases raw with
  | true => by_cases h20 : s.cnt.val < 20 <;> simp [h20]
  | false =>
    by_cases h0 : s.cnt.val = 0
    · cases hp : s.pressed <;> simp [h0]
    · simp [h0, Nat.pos_of_ne_zero h0]

theorem handler_releasePending (s : State) (raw : Bool) :
    (handler s raw).releasePending = (s.releasePending || releaseStb (tickStim raw) s) := by
  obtain ⟨hpending, -⟩ := sampleInput_event s raw
  rw [handler, advancePattern_releasePending, hpending]

theorem handler_evDuration (s : State) (raw : Bool) :
    (handler s raw).evDuration =
      if releaseStb (tickStim raw) s then s.dur else s.evDuration := by
  obtain ⟨-, hev⟩ := sampleInput_event s raw
  rw [handler, advancePattern_evDuration, hev]

@[simp] theorem handler_mode (s : State) (raw : Bool) : (handler s raw).mode = s.mode := by
  simp [handler]

@[simp] theorem handler_lampToggle (s : State) (raw : Bool) :
    (handler s raw).lampToggle = s.lampToggle := by
  simp [handler]

/-- Settles O31: the cycle is the handler, which at most sets the flag, and writes the duration just
when the release strobe is raised. -/
theorem tickPostponesThePendingEvent : Obligations.TickPostponesThePendingEvent := by
  unfold Obligations.TickPostponesThePendingEvent
  intro w s hw hp
  refine ⟨_, clock_of_tickCycle hw s, ?_, handler_mode s _, handler_lampToggle s _, ?_⟩
  · simp [handler_releasePending, hp]
  · obtain ⟨hr, ht⟩ := hw
    rw [handler_evDuration, ← eq_tickStim hr ht]

/-! ### The operations of a TICK step go together -/

/-- The sampler's operations, each with the accumulator operations that can go beside it (R124). -/
def smpAccPairs : List (Instr × Instr) :=
  [(.smpUp, .accIdle), (.smpConfirm, .accIdle), (.smpHold, .accInc), (.smpHold, .accSat),
    (.smpDown, .accIdle), (.smpRelease, .accPublish), (.smpIdle, .accIdle)]

/-- The driver's operations, each with the phase-counter operation that goes beside it (R124). -/
def drvPhPairs : List (Instr × Instr) :=
  [(.drvM1, .phHold), (.drvM2Run, .phInc), (.drvM2Toggle, .phWrap), (.drvM3OnRun, .phInc),
    (.drvM3OnEnd, .phWrap), (.drvM3OffRun, .phInc), (.drvM3OffEnd, .phWrap)]

theorem smpCase_accCase_mem (raw : Bool) (s : State) :
    (smpCase raw s, accCase raw s) ∈ smpAccPairs := by
  simp only [smpCase, accCase]
  cases raw with
  | true =>
    by_cases h20 : s.cnt.val = 20
    · by_cases hd : s.dur.toNat = 65535 <;> simp [h20, hd, smpAccPairs]
    · by_cases h19 : s.cnt.val = 19 <;> simp [h20, h19, smpAccPairs]
  | false =>
    by_cases h0 : s.cnt.val = 0
    · cases s.pressed <;> simp [h0, smpAccPairs]
    · simp [h0, smpAccPairs]

theorem drvCase_phCase_mem (s : State) : (drvCase s, phCase s) ∈ drvPhPairs := by
  simp only [drvCase, phCase]
  cases s.mode with
  | mode1 => simp [drvPhPairs]
  | mode2 => cases s.thrHit <;> simp [drvPhPairs]
  | mode3 => cases s.lamp <;> cases s.thrHit <;> simp [drvPhPairs]

theorem smpAccPairs_tied : ∀ p ∈ smpAccPairs,
    p.1 ∈ [Instr.smpUp, .smpConfirm, .smpHold, .smpDown, .smpRelease, .smpIdle] ∧
    p.2 ∈ [Instr.accIdle, .accInc, .accSat, .accPublish] ∧
    (p.1 = .smpHold ↔ p.2 = .accInc ∨ p.2 = .accSat) ∧
    (p.1 = .smpRelease ↔ p.2 = .accPublish) := by decide

theorem drvPhPairs_tied : ∀ p ∈ drvPhPairs,
    p.1 ∈ [Instr.drvM1, .drvM2Run, .drvM2Toggle, .drvM3OnRun, .drvM3OnEnd, .drvM3OffRun,
      .drvM3OffEnd] ∧
    p.2 ∈ [Instr.phHold, .phInc, .phWrap] ∧
    (p.1 = .drvM1 ↔ p.2 = .phHold) ∧
    (p.1 = .drvM2Run ∨ p.1 = .drvM3OnRun ∨ p.1 = .drvM3OffRun ↔ p.2 = .phInc) ∧
    (p.1 = .drvM2Toggle ∨ p.1 = .drvM3OnEnd ∨ p.1 = .drvM3OffEnd ↔ p.2 = .phWrap) := by decide

theorem handler_eq_commit (raw : Bool) (s : State) :
    handler s raw = s.commit (gather [smpCase raw s, accCase raw s, drvCase s, phCase s] s) := by
  rw [← tickOps_eq]
  exact Host.Outcome.next.inj (exec_tick raw s).symm

/-- Settles O13: every selection is its block's case, the two pairs of cases stand in the lists of
operations that go together, and the frame is the handler's. -/
theorem tickSelectsOneOperationOfEachBlock : Obligations.TickSelectsOneOperationOfEachBlock := by
  unfold Obligations.TickSelectsOneOperationOfEachBlock
  intro raw s
  obtain ⟨hsmp, hacc, hhold, hrelease⟩ := smpAccPairs_tied _ (smpCase_accCase_mem raw s)
  obtain ⟨hdrv, hph, hm1, hrun, hend⟩ := drvPhPairs_tied _ (drvCase_phCase_mem s)
  exact ⟨smpCase raw s, accCase raw s, drvCase s, phCase s, handler s raw,
    (decodeSsel_ssel raw s).symm, (decodeAsel_asel raw s).symm, decodeDsel_dsel s,
    (decodePsel_tick raw s).symm, hsmp, hacc, hdrv, hph, hhold, hrelease, hm1, hrun, hend,
    exec_tick raw s, handler_eq_commit raw s, handler_mode s raw, handler_lampToggle s raw,
    fun hp => by simp [handler_releasePending, hp]⟩

/-! ### The operations of a CONSUME step go together -/

theorem cnsCase_mem_of_isLong {s : State} (h : s.isLong = true) :
    cnsCase s ∈ [Instr.cnsLongM1, .cnsLongM2, .cnsLongM3] := by
  simp only [cnsCase, h]
  cases s.mode <;> decide

theorem cnsCase_mem_of_not_isLong {s : State} (h : s.isLong = false) :
    cnsCase s ∈ [Instr.cnsShortM1, .cnsShortM2, .cnsShortM3] := by
  simp only [cnsCase, h]
  cases s.mode <;> decide

theorem consume_eq_commit {s : State} (h : s.releasePending = true) :
    consume s =
      s.commit (gather [clsCase s, cnsCase s, if s.isLong then .phMclr else .phHold] s) := by
  have hexec : exec .consume s = .next (s.commit (gather (consumeOps s) s)) := by
    simp [exec, execConsume, h]
  rw [← consumeOps_eq h]
  exact Host.Outcome.next.inj ((exec_consume s).symm.trans hexec)

theorem consumeFire_of_freeCycle {w : Stim} (h : FreeCycle w) (s : State) :
    consumeFire w s = s.releasePending := by
  obtain ⟨hr, ht⟩ := h
  simp [consumeFire, hr, ht]

/-- Settles O14: the three selections and the strobes all split by `is_long`, and the frame is the
consumer's. -/
theorem consumeSelectsOneOperationOfEachBlock :
    Obligations.ConsumeSelectsOneOperationOfEachBlock := by
  unfold Obligations.ConsumeSelectsOneOperationOfEachBlock
  intro w s hw hp
  refine ⟨clsCase s, cnsCase s, if s.isLong then .phMclr else .phHold, consume s,
    (decodeCls_csel s).symm, decodeCns_csel s, ?_, ?_, clock_of_freeCycle hw s, exec_consume s,
    consume_eq_commit hp, consume_releasePending s, consume_cnt s, consume_pressed s,
    consume_dur s, consume_evDuration s⟩
  · simp [decodePsel_of_freeCycle hw, hp]
  · have hfire : consumeFire w s = true := by rw [consumeFire_of_freeCycle hw, hp]
    cases hl : s.isLong with
    | false =>
      exact .inl ⟨by simp [clsCase, hl], cnsCase_mem_of_not_isLong hl, rfl,
        by simp [evShort, hfire, hl], by simp [evLong, hl], by simp [modeEdge, evLong, hl]⟩
    | true =>
      exact .inr ⟨by simp [clsCase, hl], cnsCase_mem_of_isLong hl, rfl,
        by simp [evShort, hl], by simp [evLong, hfire, hl], by simp [modeEdge, evLong, hfire, hl]⟩

/-! ### Completion, RESET and the order of priority -/

/-- Settles O8: every operation completes, and a clock cycle and a step are each one operation. -/
theorem nothingFaultsOrRefuses : Obligations.NothingFaultsOrRefuses := by
  unfold Obligations.NothingFaultsOrRefuses
  refine ⟨exec_total, fun w s => ?_, fun s => ?_⟩
  · obtain ⟨t, ht, -⟩ := clock_total w s
    exact ⟨t, ht⟩
  · obtain ⟨t, ht, -⟩ := clock_total s.stim s.advance
    exact ⟨t, ht⟩

/-- Settles O1: the bit `rst` alone selects RESET, whose assignments name every register. -/
theorem resetGivesEveryRegisterItsValue : Obligations.ResetGivesEveryRegisterItsValue := by
  unfold Obligations.ResetGivesEveryRegisterItsValue
  exact fun w s hr => ⟨by simp [selectStep_eq, hr], clock_rst hr, rfl⟩

/-- Settles O9, by the operation of each kind of cycle. -/
theorem resetOverTickOverConsumeOverHold : Obligations.ResetOverTickOverConsumeOverHold := by
  unfold Obligations.ResetOverTickOverConsumeOverHold
  refine fun w s => ⟨clock_rst, clock_tick, fun hr ht hp => ?_, fun hr ht hp => ?_⟩
  · simp [clock_free hr ht, hp]
  · simp [clock_free hr ht, hp]

end Sys2Proof.Machine
end

section
/-!
SUPPORT. Proofs of the statements on 41_debounce_sampler.md. First the sampler's part of one TICK step:
which operation is selected, and what the tick does to `cnt` and `pressed` (R150). Then the runs that
presses are made of, one closed form for each: pressed samples below the ceiling, the confirming sample,
pressed samples at the ceiling, released samples. A press is a sequence of such runs. Statements about
every input keep an invariant over the list of raw levels instead.
-/

namespace Sys2Proof.Machine

/-! ### The sampler's operation in a TICK step -/

section select

variable (raw : Bool) (s : State)

theorem slot_accCase : (encode (accCase raw s)).slot = .acc := by
  unfold accCase
  repeat' split
  all_goals rfl

theorem slot_drvCase : (encode (drvCase s)).slot = .drv := by
  unfold drvCase
  repeat' split
  all_goals rfl

theorem slot_phCase : (encode (phCase s)).slot = .ph := by
  unfold phCase
  repeat' split
  all_goals rfl

variable {raw s}

/-- Of the four operations of a TICK step, only the sampler's case is an operation of the sampler. -/
theorem mem_tickOps_iff_smpCase {i : Instr} (hi : (encode i).slot = .smp) :
    i ∈ tickOps raw s ↔ smpCase raw s = i := by
  have hacc : i ≠ accCase raw s := fun h => by simp [h, slot_accCase] at hi
  have hdrv : i ≠ drvCase s := fun h => by simp [h, slot_drvCase] at hi
  have hph : i ≠ phCase s := fun h => by simp [h, slot_phCase] at hi
  simp [tickOps_eq, hacc, hdrv, hph, eq_comm]

theorem smpCase_eq_smpUp_iff : smpCase true s = .smpUp ↔ s.cnt.val < 19 := by
  have hc : s.cnt.val < 21 := s.cnt.isLt
  by_cases h20 : s.cnt.val = 20
  · simp [smpCase, h20]
  · by_cases h19 : s.cnt.val = 19
    · simp [smpCase, h19]
    · simp [smpCase, h20, h19]; omega

theorem smpCase_eq_smpConfirm_iff : smpCase true s = .smpConfirm ↔ s.cnt.val = 19 := by
  by_cases h20 : s.cnt.val = 20 <;> simp [smpCase, h20]

theorem smpCase_eq_smpHold_iff : smpCase true s = .smpHold ↔ s.cnt.val = 20 := by
  by_cases h19 : s.cnt.val = 19 <;> simp [smpCase, h19]

theorem smpCase_eq_smpDown_iff : smpCase false s = .smpDown ↔ 0 < s.cnt.val := by
  cases hp : s.pressed <;> simp [smpCase, hp, Nat.pos_iff_ne_zero]

theorem smpCase_eq_smpRelease_iff :
    smpCase raw s = .smpRelease ↔ raw = false ∧ s.cnt.val = 0 ∧ s.pressed = true := by
  cases raw with
  | false => by_cases h0 : s.cnt.val = 0 <;> simp [smpCase, h0]
  | true =>
    by_cases h20 : s.cnt.val = 20
    · simp [smpCase, h20]
    · by_cases h19 : s.cnt.val = 19 <;> simp [smpCase, h20, h19]

theorem smpCase_eq_smpIdle_iff :
    smpCase false s = .smpIdle ↔ s.cnt.val = 0 ∧ s.pressed = false := by
  by_cases h0 : s.cnt.val = 0 <;> simp [smpCase, h0]

@[simp] theorem smpUp_mem_tickOps : .smpUp ∈ tickOps true s ↔ s.cnt.val < 19 :=
  (mem_tickOps_iff_smpCase rfl).trans smpCase_eq_smpUp_iff

@[simp] theorem smpConfirm_mem_tickOps : .smpConfirm ∈ tickOps true s ↔ s.cnt.val = 19 :=
  (mem_tickOps_iff_smpCase rfl).trans smpCase_eq_smpConfirm_iff

@[simp] theorem smpHold_mem_tickOps : .smpHold ∈ tickOps true s ↔ s.cnt.val = 20 :=
  (mem_tickOps_iff_smpCase rfl).trans smpCase_eq_smpHold_iff

@[simp] theorem smpDown_mem_tickOps : .smpDown ∈ tickOps false s ↔ 0 < s.cnt.val :=
  (mem_tickOps_iff_smpCase rfl).trans smpCase_eq_smpDown_iff

@[simp] theorem smpRelease_mem_tickOps :
    .smpRelease ∈ tickOps raw s ↔ raw = false ∧ s.cnt.val = 0 ∧ s.pressed = true :=
  (mem_tickOps_iff_smpCase rfl).trans smpCase_eq_smpRelease_iff

@[simp] theorem smpIdle_mem_tickOps :
    .smpIdle ∈ tickOps false s ↔ s.cnt.val = 0 ∧ s.pressed = false :=
  (mem_tickOps_iff_smpCase rfl).trans smpCase_eq_smpIdle_iff

end select

/-! ### The sampler's registers in a TICK step -/

theorem samplerSide_eq_iff {s : State} {c d e : Nat} {p : Bool} :
    s.samplerSide = (c, p, d, e) ↔
      s.cnt.val = c ∧ s.pressed = p ∧ s.dur.toNat = d ∧ s.evDuration.toNat = e := by
  simp [State.samplerSide]

/-- The consumer writes nothing of the sampler side, so the handler alone moves it as the tick does. -/
theorem samplerSide_handler (s : State) (raw : Bool) :
    (handler s raw).samplerSide = samplerNext raw s.samplerSide := by
  rw [← samplerNext_of_tickStep]
  simp [State.samplerSide, tickStep]

/-- R147 with R174: the tick of a release publishes `dur` and clears it. -/
theorem handler_of_release {s : State} (h0 : s.cnt.val = 0) (hp : s.pressed = true) :
    (handler s false).samplerSide = (0, false, 0, s.dur.toNat) ∧
      (handler s false).releasePending = true := by
  constructor
  · rw [samplerSide_handler]
    simp [samplerNext, State.samplerSide, h0, hp]
  · simp [handler_releasePending, releaseStb_tickStim, (cntZero_iff s).mpr h0, hp]

/-- R150: the counter is a clamped integrator. -/
theorem handler_cnt_val (s : State) (raw : Bool) :
    (handler s raw).cnt.val = if raw then min (s.cnt.val + 1) 20 else s.cnt.val - 1 := by
  have hc : s.cnt.val < 21 := s.cnt.isLt
  have hside : (handler s raw).cnt.val = (samplerNext raw s.samplerSide).1 := by
    rw [← samplerSide_handler]; rfl
  rw [hside, samplerNext, State.samplerSide]
  cases raw with
  | true =>
    by_cases h20 : s.cnt.val < 20
    · rw [Nat.min_eq_left h20]
      simp [h20]
    · have hmax : s.cnt.val = 20 := by omega
      simp [hmax]
  | false =>
    by_cases h0 : 0 < s.cnt.val
    · simp [h0]
    · have hz : s.cnt.val = 0 := by omega
      cases s.pressed <;> simp [hz]

/-- R150: `pressed` is set by the pressed sample that brings the counter to its ceiling, and cleared by
a released sample at 0. -/
theorem handler_pressed (s : State) (raw : Bool) :
    (handler s raw).pressed =
      if raw then s.pressed || s.cnt.val == 19 else s.pressed && s.cnt.val != 0 := by
  have hside : (handler s raw).pressed = (samplerNext raw s.samplerSide).2.1 := by
    rw [← samplerSide_handler]; rfl
  rw [hside, samplerNext, State.samplerSide]
  cases raw with
  | true =>
    by_cases h19 : s.cnt.val = 19
    · simp [h19]
    · by_cases h20 : s.cnt.val < 20 <;> simp [h20, h19]
  | false =>
    by_cases h0 : s.cnt.val = 0
    · cases hp : s.pressed <;> simp [h0]
    · simp [h0, Nat.pos_of_ne_zero h0]

theorem tickStep_cnt_val (s : State) (raw : Bool) :
    (tickStep s raw).cnt.val = if raw then min (s.cnt.val + 1) 20 else s.cnt.val - 1 := by
  rw [tickStep, consume_cnt, handler_cnt_val]

theorem tickStep_pressed (s : State) (raw : Bool) :
    (tickStep s raw).pressed =
      if raw then s.pressed || s.cnt.val == 19 else s.pressed && s.cnt.val != 0 := by
  rw [tickStep, consume_pressed, handler_pressed]

/-- Settles O23: both halves are the handler's registers read off, and the flag's hysteresis follows
from the two conditions under which it changes. -/
theorem counterIsClampedIntegrator : Obligations.CounterIsClampedIntegrator := by
  unfold Obligations.CounterIsClampedIntegrator
  intro raw s
  refine ⟨_, exec_tick raw s, handler_cnt_val s raw, fun hp hp' => ?_, fun hp hp' => ?_⟩
  · cases raw with
    | true =>
      have h19 : s.cnt.val = 19 := by simpa [handler_pressed, hp] using hp'
      simp [handler_cnt_val, h19]
    | false => simp [handler_pressed, hp] at hp'
  · cases raw with
    | true => simp [handler_pressed, hp] at hp'
    | false => simpa [handler_pressed, hp] using hp'

/-- Settles O21, by the three cases of a pressed sample and the counter's arithmetic in each. -/
theorem samplerOnPressedSample : Obligations.SamplerOnPressedSample := by
  unfold Obligations.SamplerOnPressedSample
  intro s
  simp only [decodeSsel_ssel, decodeAsel_asel, smpCase_eq_smpUp_iff, smpCase_eq_smpConfirm_iff,
    smpCase_eq_smpHold_iff]
  refine ⟨fun h => ⟨h, ?_, cntUp s.cnt, ?_, rfl⟩, fun h => ⟨h, ?_, cntMaxValue, rfl, rfl⟩,
    fun h => ⟨h, ?_, rfl⟩⟩
  · have h20 : s.cnt.val ≠ 20 := by omega
    simp [accCase, h20]
  · rw [cntUp_val]; omega
  · simp [accCase, h]
  · by_cases hd : s.dur.toNat = 65535 <;> simp [accCase, h, hd]

/-- Settles O22, by the three cases of a released sample; the release's tick is `handler_of_release`. -/
theorem samplerOnReleasedSample : Obligations.SamplerOnReleasedSample := by
  unfold Obligations.SamplerOnReleasedSample
  intro s
  simp only [decodeSsel_ssel, decodeAsel_asel, smpCase_eq_smpDown_iff, smpCase_eq_smpRelease_iff,
    smpCase_eq_smpIdle_iff, smpIdle_mem_tickOps]
  refine ⟨fun h => ⟨h, ?_, cntDown s.cnt, ?_, rfl⟩, fun h0 hp => ?_,
    fun h0 hp => ⟨⟨h0, hp⟩, ?_, rfl⟩⟩
  · simp [accCase, Nat.ne_of_gt h]
  · rw [cntDown_val]; omega
  · obtain ⟨hside, hpending⟩ := handler_of_release h0 hp
    obtain ⟨hcnt, hpressed, hdur, hev⟩ := samplerSide_eq_iff.mp hside
    exact ⟨⟨trivial, h0, hp⟩, by simp [accCase, h0, hp], rfl, _, exec_tick false s,
      Fin.ext (hcnt.trans h0.symm), hpending, BitVec.eq_of_toNat_eq hev, hpressed,
      BitVec.eq_of_toNat_eq hdur, hcnt, hpressed⟩
  · simp [accCase, hp]

/-! ### Runs of equal samples -/

section runs

variable {s : State} {c d e : Nat} {p : Bool}

/-- SMP_UP ticks, and within a hold the SMP_CONFIRM tick too: the count climbs and nothing else of the
sampler side moves. -/
theorem samplerSide_ticks_up (h : s.samplerSide = (c, p, d, e)) {k : Nat} (hk : c + k ≤ 20)
    (hp : c + k = 20 → p = true) :
    (ticks s (List.replicate k true)).samplerSide = (c + k, p, d, e) := by
  induction k with
  | zero => exact h
  | succ k ih =>
    have hlt : c + k < 20 := by omega
    rw [ticks_replicate_succ, samplerNext_of_tickStep, ih (by omega) (by omega)]
    simpa [samplerNext, hlt, Nat.add_assoc] using hp

/-- The run that ends with SMP_CONFIRM: the sample at the count 19 sets `pressed`. -/
theorem samplerSide_ticks_confirm (h : s.samplerSide = (c, p, d, e)) {k : Nat} (hk : c + k = 19) :
    (ticks s (List.replicate (k + 1) true)).samplerSide = (20, true, d, e) := by
  rw [ticks_replicate_succ, samplerNext_of_tickStep, samplerSide_ticks_up h (by omega) (by omega), hk]
  rfl

/-- SMP_HOLD ticks: `dur` counts them, up to its ceiling. -/
theorem samplerSide_ticks_hold (h : s.samplerSide = (20, p, d, e)) (hd : d ≤ 65535) (k : Nat) :
    (ticks s (List.replicate k true)).samplerSide = (20, p, min (d + k) 65535, e) := by
  induction k with
  | zero => simp [h, hd]
  | succ k ih =>
    have hmin : min (min (d + k) 65535 + 1) 65535 = min (d + (k + 1)) 65535 := by omega
    rw [ticks_replicate_succ, samplerNext_of_tickStep, ih]
    simp [samplerNext, hmin]

/-- SMP_DOWN ticks, as long as the count is above 0, and after them, without `pressed`, SMP_IDLE ticks:
the count falls to 0 and nothing else of the sampler side moves. -/
theorem samplerSide_ticks_released (h : s.samplerSide = (c, p, d, e)) {k : Nat}
    (hk : k ≤ c ∨ p = false) :
    (ticks s (List.replicate k false)).samplerSide = (c - k, p, d, e) := by
  induction k with
  | zero => exact h
  | succ k ih =>
    rw [ticks_replicate_succ, samplerNext_of_tickStep, ih (hk.imp_left Nat.le_of_succ_le)]
    by_cases hpos : 0 < c - k
    · simp [samplerNext, hpos, Nat.sub_add_eq]
    · have hp : p = false := hk.resolve_left (by omega)
      have hzero : c - (k + 1) = c - k := by omega
      simp [samplerNext, hpos, hp, hzero]

end runs

/-- After a tick with its slot no event is pending. -/
theorem ticks_releasePending (s : State) {raws : List Bool} (h : raws ≠ []) :
    (ticks s raws).releasePending = false := by
  rw [← List.dropLast_concat_getLast h, ticks_concat, tickStep_releasePending]

theorem samplerSide_of_idle {s : State} (h : SamplerIdle s) :
    s.samplerSide = (0, false, s.dur.toNat, s.evDuration.toNat) := by
  obtain ⟨h0, hp⟩ := h
  exact samplerSide_eq_iff.mpr ⟨h0, hp, rfl, rfl⟩

/-! ### Presses, pulses and glitches -/

/-- A press from idle that has reached the ceiling: the samples beyond the 20th are its duration. -/
theorem samplerSide_ticks_press {s : State} {e : Nat} (h : s.samplerSide = (0, false, 0, e)) {k : Nat}
    (hk : 20 ≤ k) :
    (ticks s (List.replicate k true)).samplerSide = (20, true, min (k - 20) 65535, e) := by
  obtain ⟨m, rfl⟩ := Nat.exists_eq_add_of_le hk
  have hconfirm := samplerSide_ticks_confirm h (k := 19) rfl
  rw [← List.replicate_append_replicate, ticks_append,
    samplerSide_ticks_hold hconfirm (Nat.zero_le _), Nat.zero_add, Nat.add_sub_cancel_left]

/-- The press and up to 20 released samples after it: the count falls, the duration waits. -/
theorem samplerSide_ticks_press_released {s : State} {e : Nat} (h : s.samplerSide = (0, false, 0, e))
    {k j : Nat} (hk : 20 ≤ k) (hj : j ≤ 20) :
    (ticks s (List.replicate k true ++ List.replicate j false)).samplerSide =
      (20 - j, true, min (k - 20) 65535, e) := by
  rw [ticks_append]
  exact samplerSide_ticks_released (samplerSide_ticks_press h hk) (.inl hj)

/-- Settles O24: 20 pressed samples confirm, the others are held, 20 released ones bring the count to
0, and the tick after them is a release. -/
theorem cleanPressPublishesItsLengthLess20 : Obligations.CleanPressPublishesItsLengthLess20 := by
  unfold Obligations.CleanPressPublishesItsLengthLess20
  intro s n hidle hdur hn
  have h0 : s.samplerSide = (0, false, 0, s.evDuration.toNat) := by
    simp [samplerSide_of_idle hidle, hdur]
  refine ⟨fun k hk => ?_, ?_, fun k hk _ => ?_, fun j hj => ?_, ?_⟩
  · obtain ⟨hcnt, hpressed, -⟩ :=
      samplerSide_eq_iff.mp (samplerSide_ticks_up h0 (k := k) (by omega) (by omega))
    exact ⟨smpUp_mem_tickOps.mpr (by omega), hpressed⟩
  · obtain ⟨hcnt, -⟩ :=
      samplerSide_eq_iff.mp (samplerSide_ticks_up h0 (k := 19) (by omega) (by omega))
    exact smpConfirm_mem_tickOps.mpr hcnt
  · obtain ⟨hcnt, hpressed, hheld, -⟩ := samplerSide_eq_iff.mp (samplerSide_ticks_press h0 hk)
    exact ⟨smpHold_mem_tickOps.mpr hcnt, hpressed, hheld⟩
  · obtain ⟨hcnt, -⟩ :=
      samplerSide_eq_iff.mp (samplerSide_ticks_press_released h0 hn (Nat.le_of_lt hj))
    exact smpDown_mem_tickOps.mpr (by omega)
  · obtain ⟨hcnt, hpressed, hheld, -⟩ :=
      samplerSide_eq_iff.mp (samplerSide_ticks_press_released h0 hn (Nat.le_refl 20))
    obtain ⟨hside, hpending⟩ := handler_of_release hcnt hpressed
    obtain ⟨-, hcleared, -, hev⟩ := samplerSide_eq_iff.mp hside
    refine ⟨_, smpRelease_mem_tickOps.mpr ⟨rfl, hcnt, hpressed⟩, exec_tick false _, hpending,
      hcleared, hev.trans hheld, ?_⟩
    rw [isLong_iff, hev, hheld]
    omega

/-- A pulse that stays below the ceiling: the count rises by its samples and falls back. -/
theorem samplerSide_ticks_pulse {s : State} (h : SamplerIdle s) {n : Nat} (hn : n ≤ 19) (j : Nat) :
    (ticks s (List.replicate n true ++ List.replicate j false)).samplerSide =
      (n - j, false, s.dur.toNat, s.evDuration.toNat) := by
  have hup : (ticks s (List.replicate n true)).samplerSide =
      (n, false, s.dur.toNat, s.evDuration.toNat) := by
    simpa using samplerSide_ticks_up (samplerSide_of_idle h) (k := n) (by omega) (by omega)
  rw [ticks_append]
  exact samplerSide_ticks_released hup (.inr rfl)

/-- Settles O25: below the ceiling the counter climbs and falls with nothing else moved, and there is a
tick before each state looked at, so no event is pending. -/
theorem shortPulseIsAbsorbed : Obligations.ShortPulseIsAbsorbed := by
  unfold Obligations.ShortPulseIsAbsorbed
  intro s n hidle hn1 hn
  have hup {k : Nat} (hk : k ≤ n) := samplerSide_eq_iff.mp
    (samplerSide_ticks_up (samplerSide_of_idle hidle) (k := k) (by omega) (by omega))
  have hpulse (j : Nat) := samplerSide_eq_iff.mp (samplerSide_ticks_pulse hidle hn j)
  refine ⟨fun k hk => ?_, fun k hk => ?_, fun j hj => ?_, fun j => ?_⟩
  · obtain ⟨hcnt, -⟩ := hup (Nat.le_of_lt hk)
    exact smpUp_mem_tickOps.mpr (by omega)
  · obtain ⟨hcnt, hpressed, -⟩ := hup hk
    exact ⟨hcnt.trans (Nat.zero_add k), hpressed⟩
  · obtain ⟨hcnt, -⟩ := hpulse j
    exact smpDown_mem_tickOps.mpr (by omega)
  · obtain ⟨hcnt, hpressed, -, hev⟩ := hpulse j
    exact ⟨hcnt, hpressed, BitVec.eq_of_toNat_eq hev, ticks_releasePending s (by simp; omega)⟩

/-- A glitch inside a hold: `g` released samples and the first `j` of the pressed ones that make up for
them move the count alone, since `pressed` is set already. -/
theorem samplerSide_ticks_glitch {s : State} {d e : Nat} (h : s.samplerSide = (20, true, d, e))
    {g j : Nat} (hg : g ≤ 20) (hj : j ≤ g) :
    (ticks s (List.replicate g false ++ List.replicate j true)).samplerSide =
      (20 - g + j, true, d, e) := by
  rw [ticks_append]
  exact samplerSide_ticks_up (samplerSide_ticks_released h (.inl hg)) (by omega) (fun _ => rfl)

/-- Settles O27: the count alone moves, so the operation of each sample is read off it. -/
theorem releasedGlitchInsideAHold : Obligations.ReleasedGlitchInsideAHold := by
  unfold Obligations.ReleasedGlitchInsideAHold
  intro s hcnt hpressed
  have hhold : s.samplerSide = (20, true, s.dur.toNat, s.evDuration.toNat) :=
    samplerSide_eq_iff.mpr ⟨hcnt, hpressed, rfl, rfl⟩
  have hdown {j : Nat} (hj : j ≤ 20) :=
    samplerSide_eq_iff.mp (samplerSide_ticks_released hhold (k := j) (.inl hj))
  have hglitch {g j : Nat} (hg : g ≤ 19) (hj : j ≤ g) :=
    samplerSide_eq_iff.mp (samplerSide_ticks_glitch hhold (Nat.le_succ_of_le hg) hj)
  refine ⟨fun g hg1 hg => ⟨fun j hj => ?_, fun j hj => ?_, fun j hj => ?_, ?_, ?_⟩, ?_⟩
  · obtain ⟨hc, hp, -⟩ := hdown (j := j) (by omega)
    exact ⟨hc, hp⟩
  · obtain ⟨hc, hp, hd, he⟩ := hglitch hg hj
    exact ⟨hc, hp, BitVec.eq_of_toNat_eq hd, ticks_releasePending s (by simp; omega),
      BitVec.eq_of_toNat_eq he⟩
  · obtain ⟨hc, -⟩ := hglitch hg (j := j) (by omega)
    exact smpUp_mem_tickOps.mpr (by omega)
  · obtain ⟨hc, -⟩ := hglitch hg (Nat.sub_le g 1)
    exact smpConfirm_mem_tickOps.mpr (by omega)
  · obtain ⟨hc, -⟩ := hglitch hg (Nat.le_refl g)
    exact smpHold_mem_tickOps.mpr (by omega)
  · obtain ⟨hc, hp, -⟩ := hdown (Nat.le_refl 20)
    exact ⟨hc, smpRelease_mem_tickOps.mpr ⟨rfl, hc, hp⟩⟩

/-! ### Fewer than 20 pressed samples -/

/-- No press has been confirmed or published on the way from `s` to `t`: the button does not count as
held, no event is pending, and the last event's traces are those of `s`. -/
structure NoEventSince (s t : State) : Prop where
  pressed : t.pressed = false
  releasePending : t.releasePending = false
  evDuration : t.evDuration = s.evDuration
  mode : t.mode = s.mode
  lampToggle : t.lampToggle = s.lampToggle

theorem NoEventSince.trans {s t u : State} (hst : NoEventSince s t) (htu : NoEventSince t u) :
    NoEventSince s u where
  pressed := htu.pressed
  releasePending := htu.releasePending
  evDuration := htu.evDuration.trans hst.evDuration
  mode := htu.mode.trans hst.mode
  lampToggle := htu.lampToggle.trans hst.lampToggle

/-- Without `pressed` there is no release, so the slot has nothing to consume; `pressed` can only be
set by a pressed sample at the count 19. -/
theorem noEventSince_tickStep {s : State} {raw : Bool} (hp : s.pressed = false)
    (hr : s.releasePending = false) (h19 : raw = true → s.cnt.val ≠ 19) :
    NoEventSince s (tickStep s raw) := by
  have hstb : releaseStb (tickStim raw) s = false := by simp [releaseStb_tickStim, hp]
  have hstep : tickStep s raw = handler s raw :=
    consume_eq_self (by simp [handler_releasePending, hr, hstb])
  refine ⟨?_, tickStep_releasePending s raw, ?_, ?_, ?_⟩
  · cases raw with
    | true => simp [tickStep_pressed, hp, h19]
    | false => simp [tickStep_pressed, hp]
  · simp [hstep, handler_evDuration, hstb]
  · rw [hstep, handler_mode]
  · rw [hstep, handler_lampToggle]

/-- Each pressed sample raises the count by at most one, so fewer than 20 never reach the ceiling. -/
theorem noEventSince_ticks {s : State} {raws : List Bool} (hp : s.pressed = false)
    (hr : s.releasePending = false) (hcount : s.cnt.val + raws.count true < 20) :
    NoEventSince s (ticks s raws) := by
  induction raws generalizing s with
  | nil => exact ⟨hp, hr, rfl, rfl, rfl⟩
  | cons raw raws ih =>
    have hcount' : (tickStep s raw).cnt.val + raws.count true < 20 := by
      cases raw <;> simp [tickStep_cnt_val] at hcount ⊢ <;> omega
    have hstep : NoEventSince s (tickStep s raw) :=
      noEventSince_tickStep hp hr fun hraw => by simp [hraw] at hcount; omega
    exact hstep.trans (ih hstep.pressed hstep.releasePending hcount')

/-- Settles O26: no event since the idle state, and a release needs `pressed`. -/
theorem fewerThan20SamplesEmitNoEvent : Obligations.FewerThan20SamplesEmitNoEvent := by
  unfold Obligations.FewerThan20SamplesEmitNoEvent
  intro s raws hidle hr hcount
  obtain ⟨h0, hp⟩ := hidle
  have hquiet : NoEventSince s (ticks s raws) := noEventSince_ticks hp hr (by omega)
  exact ⟨hquiet.pressed, hquiet.releasePending, hquiet.evDuration, hquiet.mode, hquiet.lampToggle,
    fun raw => by simp [hquiet.pressed]⟩

/-! ### The least distance of two release events -/

/-- What the count and the flag say of the number of ticks since an idle sampler: the count needs one
tick each, and with `pressed` set there were 20 ticks up to the ceiling and one for each count lost
since. -/
def TicksSinceIdle (n : Nat) (s : State) : Prop :=
  (s.pressed = false → s.cnt.val ≤ n) ∧ (s.pressed = true → 40 ≤ n + s.cnt.val)

theorem ticksSinceIdle_tickStep {n : Nat} {s : State} (h : TicksSinceIdle n s) (raw : Bool) :
    TicksSinceIdle (n + 1) (tickStep s raw) := by
  have hc : s.cnt.val < 21 := s.cnt.isLt
  obtain ⟨hclear, hset⟩ := h
  cases hp : s.pressed with
  | false =>
    have hn := hclear hp
    cases raw <;> simp [TicksSinceIdle, tickStep_cnt_val, tickStep_pressed, hp] <;> omega
  | true =>
    have hn := hset hp
    cases raw <;> simp [TicksSinceIdle, tickStep_cnt_val, tickStep_pressed, hp] <;> omega

theorem ticksSinceIdle_ticks {n : Nat} {s : State} (h : TicksSinceIdle n s) (raws : List Bool) :
    TicksSinceIdle (n + raws.length) (ticks s raws) := by
  induction raws generalizing n s with
  | nil => exact h
  | cons raw raws ih =>
    have hlength : n + (raw :: raws).length = n + 1 + raws.length := by simp; omega
    rw [hlength]
    exact ih (ticksSinceIdle_tickStep h raw)

theorem ticksSinceIdle_of_idle {s : State} (h : SamplerIdle s) (raws : List Bool) :
    TicksSinceIdle raws.length (ticks s raws) := by
  obtain ⟨h0, hp⟩ := h
  rw [← Nat.zero_add raws.length]
  exact ticksSinceIdle_ticks ⟨fun _ => Nat.le_of_eq h0, by simp [hp]⟩ raws

/-- Settles O28: the lower bounds are `TicksSinceIdle` at the count 19 and at the count 0 with
`pressed` set; the shortest clean press attains them. -/
theorem releaseEventsAre41TicksApart : Obligations.ReleaseEventsAre41TicksApart := by
  unfold Obligations.ReleaseEventsAre41TicksApart
  refine ⟨fun s h => ?_, fun s raws hidle h => ?_, fun s raws hidle h => ?_, fun s hidle hdur => ?_⟩
  · obtain ⟨-, h0, hp⟩ := smpRelease_mem_tickOps.mp h
    simp [SamplerIdle, tickStep_cnt_val, tickStep_pressed, h0]
  · have h19 := smpConfirm_mem_tickOps.mp h
    obtain ⟨hclear, hset⟩ := ticksSinceIdle_of_idle hidle raws
    cases hp : (ticks s raws).pressed with
    | false => rw [← h19]; exact hclear hp
    | true => have hn := hset hp; omega
  · obtain ⟨-, h0, hp⟩ := smpRelease_mem_tickOps.mp h
    obtain ⟨-, hset⟩ := ticksSinceIdle_of_idle hidle raws
    simpa [h0] using hset hp
  · have hside : s.samplerSide = (0, false, 0, s.evDuration.toNat) := by
      simp [samplerSide_of_idle hidle, hdur]
    obtain ⟨hcnt, hpressed, hheld, -⟩ := samplerSide_eq_iff.mp
      (samplerSide_ticks_press_released hside (Nat.le_refl 20) (Nat.le_refl 20))
    exact ⟨smpRelease_mem_tickOps.mpr ⟨rfl, hcnt, hpressed⟩, BitVec.eq_of_toNat_eq hheld⟩

end Sys2Proof.Machine
end

section
/-!
SUPPORT. Proofs of the statements on 42_press_classifier.md. The accumulator's operation is read off its
two strobes, and the release strobe names the state in which the handler publishes. On the consumer's
side both strobes are `release_pending` split by `is_long` in a free cycle, and `consume_fire` needs the
flag that every consumed event clears.
-/

namespace Sys2Proof.Machine

/-! ### The accumulator -/

/-- R87 by the strobes: ACC_INC and ACC_SAT on `acc_stb`, else ACC_PUBLISH on `release_stb`. -/
theorem decodeAsel_of_strobes (w : Stim) (s : State) :
    decodeAsel (asel w s) =
      if accStb w s then (if s.durMax then .accSat else .accInc)
      else if releaseStb w s then .accPublish else .accIdle :=
  decodeAsel_bits _ _ _

/-- R149 in the terms of the registers. -/
theorem releaseStb_tickStim_iff (raw : Bool) (s : State) :
    releaseStb (tickStim raw) s = true ↔ raw = false ∧ s.cnt.val = 0 ∧ s.pressed = true := by
  simp [releaseStb_tickStim, cntZero_iff, and_assoc]

/-- Settles O29: the selections by the strobes and `dur_max`; below `DUR_MAX` the increment cannot
overflow. -/
theorem accumulatorCountsHeldTicks : Obligations.AccumulatorCountsHeldTicks := by
  unfold Obligations.AccumulatorCountsHeldTicks
  intro raw s
  simp only [decodeAsel_of_strobes]
  refine ⟨fun hacc hrel => ⟨by simp [hacc, hrel], rfl⟩,
    fun hacc hd => ⟨?_, s.dur + 1, ?_, rfl⟩, fun hacc hd => ⟨?_, rfl⟩⟩
  · have hmax : ¬ s.durMax = true := by rw [durMax_iff]; omega
    simp [hacc, hmax]
  · have hlt : s.dur.toNat + 1 < 2 ^ 16 := by omega
    exact BitVec.toNat_add_of_lt hlt
  · simp [hacc, (durMax_iff s).mpr hd]

/-- Settles O30: a release strobe is a released sample at count 0 with `pressed` set, whether or not an
event is pending, and the tick there is `handler_of_release`. -/
theorem publishOverwritesAnUnconsumedEvent : Obligations.PublishOverwritesAnUnconsumedEvent := by
  unfold Obligations.PublishOverwritesAnUnconsumedEvent
  intro raw s hrel
  obtain ⟨rfl, h0, hp⟩ := (releaseStb_tickStim_iff raw s).mp hrel
  obtain ⟨hside, hpending⟩ := handler_of_release h0 hp
  obtain ⟨-, hpressed, hdur, hev⟩ := samplerSide_eq_iff.mp hside
  exact ⟨by simp [decodeAsel_asel, accCase, h0, hp], rfl, _, exec_tick false s,
    BitVec.eq_of_toNat_eq hev, hpending, BitVec.eq_of_toNat_eq hdur, hpressed⟩

/-- Settles O40: the release's tick publishes `dur`, and 65535 is at least 3000. -/
theorem saturatedPressStaysLong : Obligations.SaturatedPressStaysLong := by
  unfold Obligations.SaturatedPressStaysLong
  intro s hd h0 hp
  obtain ⟨hside, -⟩ := handler_of_release h0 hp
  obtain ⟨-, -, -, hev⟩ := samplerSide_eq_iff.mp hside
  have hmax : (handler s false).evDuration.toNat = 65535 := hev.trans hd
  exact ⟨_, exec_tick false s, hmax, (isLong_iff _).mpr (by omega)⟩

/-! ### The classifier -/

/-- With an event pending, a free cycle raises the strobe of the event's kind. -/
theorem strobes_of_freeCycle {w : Stim} {s : State} (hw : FreeCycle w)
    (hp : s.releasePending = true) : evShort w s = !s.isLong ∧ evLong w s = s.isLong := by
  simp [evShort, evLong, consumeFire_of_freeCycle hw, hp]

/-- Settles O32: the classifier's and the mode machine's operations, PH_MCLR and the strobes all follow
`is_long`. -/
theorem classifierSplitsAt3000 : Obligations.ClassifierSplitsAt3000 := by
  unfold Obligations.ClassifierSplitsAt3000
  intro w s
  refine ⟨isLong_iff s, fun hw hp hlt => ?_, fun hw hp hge => ?_⟩
  · have hl : s.isLong = false := by rw [← Bool.not_eq_true, isLong_iff]; omega
    obtain ⟨hshort, hlong⟩ := strobes_of_freeCycle hw hp
    rw [hl] at hshort hlong
    exact ⟨by simp [decodeCls_csel, clsCase, hl], hshort, hlong, rfl, cnsCase s,
      cnsCase_mem_of_not_isLong hl, decodeCns_csel s⟩
  · have hl : s.isLong = true := (isLong_iff s).mpr hge
    obtain ⟨hshort, hlong⟩ := strobes_of_freeCycle hw hp
    rw [hl] at hshort hlong
    exact ⟨by simp [decodeCls_csel, clsCase, hl], hlong, hlong, hshort,
      by simp [decodePsel_of_freeCycle hw, hp, hl], rfl, cnsCase s,
      cnsCase_mem_of_isLong hl, decodeCns_csel s⟩

/-! ### One consumption for each event -/

theorem consumeFire_eq_false {s : State} (h : s.releasePending = false) (w : Stim) :
    consumeFire w s = false := by
  simp [consumeFire, h]

/-- Settles O33: the free cycle is the consumer, which leaves no event pending, and without one
`consume_fire` is 0 for every stimulus word. -/
theorem eventIsConsumedOnce : Obligations.EventIsConsumedOnce := by
  unfold Obligations.EventIsConsumedOnce
  intro w s hw hp
  have hfire := consumeFire_eq_false (consume_releasePending s)
  refine ⟨by simp [selectStep_of_freeCycle hw, hp], consume s, clock_of_freeCycle hw s,
    consume_releasePending s, fun w' => ?_, fun w' => ?_⟩
  · simp [selectStep_eq_consume_iff, hfire w']
  · simp [evShort, evLong, hfire w']

end Sys2Proof.Machine
end

section
/-!
SUPPORT. Proofs of the statements on 43_mode_fsm.md. The consumer of a short press and of a long press is
written out once each, and outside reset no other step moves the mode or writes `lamp_toggle`. Along a
script the mode is then the successor on the ring of modes iterated once for each long press, and the
arithmetic modulo 3 is a fact about that ring alone.
-/

namespace Sys2Proof

/-! ### The ring of modes -/

/-- The mode a long press leads to (R185). -/
def Mode.next : Mode → Mode
  | .mode1 => .mode2
  | .mode2 => .mode3
  | .mode3 => .mode1

/-- R186, the transition function on DOC0's integers. -/
theorem Mode.toNat_next (m : Mode) : m.next.toNat = m.toNat % 3 + 1 := by cases m <;> rfl

theorem Mode.next_eq_mode1_iff (m : Mode) : m.next = .mode1 ↔ m = .mode3 := by cases m <;> decide

/-- The integer of a mode is one more than its place on the ring. -/
theorem Mode.toNat_sub_one_mod (m : Mode) : (m.toNat - 1) % 3 + 1 = m.toNat := by cases m <;> rfl

theorem Mode.toNat_pos (m : Mode) : 0 < m.toNat := by cases m <;> decide

/-- The mode `k` long presses lead to. -/
def Mode.afterLong : Nat → Mode → Mode
  | 0, m => m
  | k + 1, m => Mode.afterLong k m.next

theorem Mode.toNat_afterLong (k : Nat) (m : Mode) :
    (Mode.afterLong k m).toNat = (m.toNat - 1 + k) % 3 + 1 := by
  induction k generalizing m with
  | zero => exact m.toNat_sub_one_mod.symm
  | succ k ih =>
    have hpos : 0 < m.toNat := m.toNat_pos
    rw [Mode.afterLong, ih, Mode.toNat_next]
    omega

end Sys2Proof

namespace Sys2Proof.Machine

/-! ### The rows of the transition table -/

/-- Settles O35: `csel` selects the row of the mode, and the row's assignments make the update. -/
theorem shortPressRows : Obligations.ShortPressRows := by
  unfold Obligations.ShortPressRows
  intro s _ hl
  simp only [decodeCns_csel, cnsCase, hl]
  refine ⟨?_, ?_, ?_⟩ <;> exact fun hm => ⟨by simp [hm], rfl⟩

/-- Settles O36, as the short-press rows. -/
theorem longPressRows : Obligations.LongPressRows := by
  unfold Obligations.LongPressRows
  intro s _ hl
  simp only [decodeCns_csel, cnsCase, hl]
  refine ⟨?_, ?_, ?_⟩ <;> exact fun hm => ⟨by simp [hm], rfl⟩

/-! ### The consumer by the kind of the press -/

/-- The three short-press rows in one: outside MODE_1 only the flag is cleared (R188, R190, R192). -/
def State.shortPress (s : State) : State :=
  { s with
    releasePending := false
    lampToggle := if s.mode = .mode1 then !s.lampToggle else s.lampToggle
    lamp := if s.mode = .mode1 then !s.lampToggle else s.lamp }

/-- The three long-press rows in one: only the return to MODE_1 writes `lamp_toggle` (R189, R191,
R193). -/
def State.longPress (s : State) : State :=
  { s with
    releasePending := false
    mode := s.mode.next
    lampToggle := if s.mode = .mode3 then true else s.lampToggle
    phase := 0
    lamp := s.mode != .mode1 }

theorem consume_eq_press (s : State) :
    consume s =
      if s.releasePending then (if s.isLong then s.longPress else s.shortPress) else s := by
  cases hp : s.releasePending with
  | false => exact consume_eq_self hp
  | true =>
    have hl : decide (Config.LONG_PRESS_TICKS ≤ s.evDuration.toNat) = s.isLong :=
      Bool.eq_iff_iff.mpr (by simp [isLong_iff])
    simp only [consume, hp, hl, State.shortPress, State.longPress]
    cases s.mode <;> cases s.isLong <;> rfl

theorem evLong_of_tickCycle {w : Stim} (hw : TickCycle w) (s : State) : evLong w s = false := by
  obtain ⟨-, ht⟩ := hw
  simp [evLong, consumeFire, ht]

theorem evLong_of_freeCycle {w : Stim} (hw : FreeCycle w) (s : State) :
    evLong w s = (s.releasePending && s.isLong) := by
  rw [evLong, consumeFire_of_freeCycle hw]

/-! ### The mode -/

/-- R186: outside reset the mode moves on just when `ev_long` is raised. -/
theorem clock_mode {w : Stim} {s t : State} (hr : Stim.rst w = false)
    (h : clock w s = .next t) : t.mode = if evLong w s then s.mode.next else s.mode := by
  obtain ⟨hr', -⟩ | ⟨hw, hc⟩ | ⟨hw, hc⟩ := clock_cases w s
  · simp [hr] at hr'
  · cases h.symm.trans hc
    simp [evLong_of_tickCycle hw]
  · cases h.symm.trans hc
    rw [evLong_of_freeCycle hw, consume_eq_press]
    cases s.releasePending <;> cases s.isLong <;> rfl

/-- R195: the edge that moves the mode clears the phase. -/
theorem clock_of_evLong {w : Stim} {s : State} (hr : Stim.rst w = false)
    (h : evLong w s = true) : clock w s = .next s.longPress := by
  obtain ⟨hr', -⟩ | ⟨hw, -⟩ | ⟨hw, hc⟩ := clock_cases w s
  · simp [hr] at hr'
  · simp [evLong_of_tickCycle hw] at h
  · simp only [evLong_of_freeCycle hw, Bool.and_eq_true] at h
    obtain ⟨hp, hl⟩ := h
    rw [hc, consume_eq_press, if_pos hp, if_pos hl]

/-- Settles O38: a cycle with `ev_long` is `longPress`, and every other cycle keeps the mode. -/
theorem onlyALongPressChangesTheMode : Obligations.OnlyALongPressChangesTheMode := by
  unfold Obligations.OnlyALongPressChangesTheMode
  intro w s hr
  obtain ⟨t, ht, -⟩ := clock_total w s
  refine ⟨t, ht, fun hlong => ?_, fun hlong => by simp [clock_mode hr ht, hlong]⟩
  cases ht.symm.trans (clock_of_evLong hr hlong)
  exact ⟨s.mode.toNat_next, rfl⟩

theorem longEvents_cons {w : Stim} {s t : State} (ws : List Stim) (h : clock w s = .next t) :
    longEvents (w :: ws) s = (if evLong w s then 1 else 0) + longEvents ws t := by
  simp [longEvents, h]

/-- Along a script without reset the mode moves on once for each long press. -/
theorem runScript_mode {ws : List Stim} {s t : State} (hws : ∀ w ∈ ws, Stim.rst w = false)
    (h : runScript ws s = .next t) : t.mode = Mode.afterLong (longEvents ws s) s.mode := by
  induction ws generalizing s with
  | nil => cases h; rfl
  | cons w ws ih =>
    obtain ⟨hr, hws⟩ := List.forall_mem_cons.mp hws
    obtain ⟨u, hu, -⟩ := clock_total w s
    rw [runScript_cons ws hu] at h
    rw [longEvents_cons ws hu, Nat.add_comm, ih hws h, clock_mode hr hu]
    cases evLong w s <;> rfl

/-- Settles O37: `runScript_mode`, read on the integers of the modes. -/
theorem modeCountsLongPressesModulo3 : Obligations.ModeCountsLongPressesModulo3 := by
  unfold Obligations.ModeCountsLongPressesModulo3
  have hring (ws : List Stim) (s : State) (hws : ∀ w ∈ ws, Stim.rst w = false) :
      ∃ t, runScript ws s = .next t ∧
        t.mode.toNat = (s.mode.toNat - 1 + longEvents ws s) % 3 + 1 := by
    obtain ⟨t, ht⟩ := runScript_total ws s
    exact ⟨t, ht, by rw [runScript_mode hws ht, Mode.toNat_afterLong]⟩
  refine ⟨fun ws hws => ?_, hring⟩
  have hplace : State.reset.mode.toNat - 1 = 0 := rfl
  simpa only [hplace, Nat.zero_add] using hring ws State.reset hws

/-! ### `lamp_toggle` outside MODE_1 -/

/-- R197: outside MODE_1 only the long press in MODE_3 writes `lamp_toggle`. -/
theorem clock_lampToggle {w : Stim} {s t : State} (hr : Stim.rst w = false)
    (hm : s.mode ≠ .mode1) (h : clock w s = .next t) :
    t.lampToggle = if s.mode = .mode3 ∧ evLong w s = true then true else s.lampToggle := by
  obtain ⟨hr', -⟩ | ⟨hw, hc⟩ | ⟨hw, hc⟩ := clock_cases w s
  · simp [hr] at hr'
  · cases h.symm.trans hc
    simp [evLong_of_tickCycle hw]
  · cases h.symm.trans hc
    rw [evLong_of_freeCycle hw, consume_eq_press]
    cases s.releasePending <;> cases s.isLong <;> simp [State.longPress, State.shortPress, hm]

theorem sampleInput_withLampToggle (s : State) (raw level : Bool) :
    sampleInput { s with lampToggle := level } raw =
      { sampleInput s raw with lampToggle := level } := by
  unfold sampleInput
  cases raw with
  | true => by_cases h20 : s.cnt.val < 20 <;> simp only [h20, if_true, dite_true, dite_false]
  | false =>
    by_cases h0 : 0 < s.cnt.val
    · simp only [h0, if_true, if_false, Bool.false_eq_true]
    · by_cases hp : s.pressed = true <;> simp only [h0, hp, if_true, if_false, Bool.false_eq_true]

theorem advancePattern_withLampToggle (s : State) (level : Bool) :
    advancePattern { s with lampToggle := level } =
      { advancePattern s with lampToggle := level } := by
  have hreads : patternWrites { s with lampToggle := level } = patternWrites s := rfl
  have hwrites : (patternWrites s).lampToggle = none := by
    unfold patternWrites
    split
    · rfl
    · split <;> rfl
  simp only [advancePattern_eq_commit, hreads, State.commit, hwrites, Option.getD_none]

/-- The handler neither reads nor writes `lamp_toggle`. -/
theorem handler_withLampToggle (s : State) (raw level : Bool) :
    handler { s with lampToggle := level } raw = { handler s raw with lampToggle := level } := by
  rw [handler, sampleInput_withLampToggle, advancePattern_withLampToggle, handler]

/-- Outside MODE_1 the consumer reads `lamp_toggle` only to keep it, and its return to MODE_1 does not
read it. -/
theorem consume_withLampToggle {s : State} (hm : s.mode ≠ .mode1) (level : Bool) :
    ∃ level', consume { s with lampToggle := level } = { consume s with lampToggle := level' } ∧
      ((consume s).mode = .mode1 → level' = (consume s).lampToggle) := by
  have hlong : State.isLong { s with lampToggle := level } = s.isLong := rfl
  simp only [consume_eq_press, hlong]
  by_cases hp : s.releasePending = true
  · simp only [if_pos hp]
    by_cases hl : s.isLong = true
    · simp only [if_pos hl]
      refine ⟨if s.mode = .mode3 then true else level, rfl, fun h => ?_⟩
      have h3 : s.mode = .mode3 := s.mode.next_eq_mode1_iff.mp h
      simp [State.longPress, h3]
    · simp only [if_neg hl]
      exact ⟨level, by simp [State.shortPress, hm], fun h => absurd h hm⟩
  · simp only [if_neg hp]
    exact ⟨level, rfl, fun h => absurd h hm⟩

/-- Settles O39: the value by `clock_lampToggle`; the two runs by the kind of cycle, of which RESET
writes `lamp_toggle`, the handler keeps the mode and the consumer is `consume_withLampToggle`. -/
theorem lampToggleIsKeptOutsideMode1 : Obligations.LampToggleIsKeptOutsideMode1 := by
  unfold Obligations.LampToggleIsKeptOutsideMode1
  refine ⟨fun w s hr hm => ?_, fun w s level hm => ?_⟩
  · obtain ⟨t, ht, -⟩ := clock_total w s
    exact ⟨t, ht, clock_lampToggle hr hm ht⟩
  · obtain ⟨hr, hc⟩ | ⟨hw, hc⟩ | ⟨hw, hc⟩ := clock_cases w s
    · exact ⟨_, _, hc, clock_rst hr, rfl, fun _ => rfl⟩
    · refine ⟨_, _, hc, clock_of_tickCycle hw _, ?_, fun h => ?_⟩
      · rw [handler_withLampToggle]
      · rw [handler_mode] at h
        exact absurd h hm
    · obtain ⟨level', heq, hback⟩ := consume_withLampToggle hm level
      refine ⟨_, _, hc, clock_of_freeCycle hw _, ?_, fun h => ?_⟩
      · rw [heq]
      · rw [heq, hback h]

end Sys2Proof.Machine
end

section
/-!
SUPPORT. Proofs of the statements on 44_pattern_phase_counter.md. The command of a cycle is read off
`mclr`, `inc_en` and `wrap`, of a TICK cycle off the phase counter's case, and below the threshold the
phase is too small for the increment to wrap around.
-/

namespace Sys2Proof.Machine

/-- R89 by the signals: `mclr` before `inc_en`, and `wrap` only beside `inc_en`. -/
theorem decodePsel_of_commands (w : Stim) (s : State) :
    decodePsel (psel w s) =
      if mclr w s then .phMclr
      else if incEn w s then (if wrap w s then .phWrap else .phInc) else .phHold :=
  decodePsel_bits _ _ _

theorem decodePsel_of_tickCycle {w : Stim} (h : TickCycle w) (s : State) :
    decodePsel (psel w s) = phCase s := by
  obtain ⟨hr, ht⟩ := h
  rw [eq_tickStim hr ht, decodePsel_tick]

/-- Below the threshold the phase is below the largest threshold, `OFF_TIME` (R83). -/
theorem phase_succ_lt_of_not_thrHit {s : State} (hm : s.mode ≠ .mode1) (ht : s.thrHit = false) :
    s.phase.toNat + 1 < 900 := by
  have hbelow : ¬ s.thrHit = true := by simp [ht]
  cases hmode : s.mode with
  | mode1 => exact absurd hmode hm
  | mode2 => rw [thrHit_mode2 hmode] at hbelow; omega
  | mode3 =>
    cases hl : s.lamp with
    | true => rw [thrHit_mode3_on hmode hl] at hbelow; omega
    | false => rw [thrHit_mode3_off hmode hl] at hbelow; omega

/-- Settles O41: each selection by the kind of cycle, each effect by the command's one assignment;
below the threshold the increment stays within the ten bits. -/
theorem phaseCounterCommands : Obligations.PhaseCounterCommands := by
  unfold Obligations.PhaseCounterCommands
  intro w s
  refine ⟨fun hclr hinc => ⟨by simp [decodePsel_of_commands, hclr, hinc], rfl⟩,
    fun hw hm => by simp [decodePsel_of_tickCycle hw, phCase, hm],
    fun hw hp => by simp [decodePsel_of_freeCycle hw, hp],
    fun hw _ hl => by simp [decodePsel_of_freeCycle hw, hl],
    fun hw hm ht => ⟨by simp [decodePsel_of_tickCycle hw, phCase, hm, ht], s.phase + 1, ?_, rfl⟩,
    fun hw hm ht => ⟨by simp [decodePsel_of_tickCycle hw, phCase, hm, ht], rfl⟩,
    fun hw hp hl => ⟨by simp [decodePsel_of_freeCycle hw, hp, hl], rfl⟩⟩
  have hlt : s.phase.toNat + 1 < 900 := phase_succ_lt_of_not_thrHit hm ht
  have hfits : s.phase.toNat + 1 < 2 ^ 10 := by omega
  exact BitVec.toNat_add_of_lt hfits

end Sys2Proof.Machine
end

section
/-!
SUPPORT. Proofs of the statements on 45_blink_driver.md. A tick moves mode, lamp and phase by
`advancePattern`, which reads nothing else, and a cycle without a tick moves them only where it resets
or consumes a long press or, in MODE_1, any press. So a run is `patternAfter` its number of ticks,
and a waveform is a closed form of `patternAfter`.
-/

namespace Sys2Proof

section equivalence

open Sys2Proof.Machine

variable {s t u : State}

theorem SamePattern.refl (s : State) : SamePattern s s := ⟨rfl, rfl, rfl⟩

theorem SamePattern.symm (h : SamePattern s t) : SamePattern t s := by
  obtain ⟨hm, hl, hp⟩ := h
  exact ⟨hm.symm, hl.symm, hp.symm⟩

theorem SamePattern.trans (hst : SamePattern s t) (htu : SamePattern t u) : SamePattern s u := by
  obtain ⟨hm, hl, hp⟩ := hst
  obtain ⟨hm', hl', hp'⟩ := htu
  exact ⟨hm.trans hm', hl.trans hl', hp.trans hp'⟩

end equivalence

end Sys2Proof

namespace Sys2Proof.Machine

/-! ### The driver's operation in a TICK step -/

/-- Settles O42: the driver's and the phase counter's cases split at the threshold 50. -/
theorem driverInModes1And2 : Obligations.DriverInModes1And2 := by
  unfold Obligations.DriverInModes1And2
  intro raw s
  simp only [decodeDsel_dsel, decodePsel_tick, drvCase, phCase]
  refine ⟨fun hm => ?_, fun hm hlt => ?_, fun hm hge => ?_⟩
  · exact ⟨by simp [hm], by simp [hm], rfl⟩
  · have ht : ¬ s.thrHit = true := by rw [thrHit_mode2 hm]; omega
    exact ⟨by simp [hm, ht], by simp [hm, ht], rfl⟩
  · have ht : s.thrHit = true := (thrHit_mode2 hm).mpr hge
    exact ⟨by simp [hm, ht], by simp [hm, ht], rfl⟩

/-- Settles O43: the two cases split at 100 with the lamp ON and at 900 with the lamp OFF. -/
theorem driverInMode3 : Obligations.DriverInMode3 := by
  unfold Obligations.DriverInMode3
  intro raw s hm
  simp only [decodeDsel_dsel, decodePsel_tick, drvCase, phCase]
  refine ⟨fun hl hlt => ?_, fun hl hge => ?_, fun hl hlt => ?_, fun hl hge => ?_⟩
  · have ht : ¬ s.thrHit = true := by rw [thrHit_mode3_on hm hl]; omega
    exact ⟨by simp [hm, hl, ht], by simp [hm, ht], rfl⟩
  · have ht : s.thrHit = true := (thrHit_mode3_on hm hl).mpr hge
    exact ⟨by simp [hm, hl, ht], by simp [hm, ht], rfl⟩
  · have ht : ¬ s.thrHit = true := by rw [thrHit_mode3_off hm hl]; omega
    exact ⟨by simp [hm, hl, ht], by simp [hm, ht], rfl⟩
  · have ht : s.thrHit = true := (thrHit_mode3_off hm hl).mpr hge
    exact ⟨by simp [hm, hl, ht], by simp [hm, ht], rfl⟩

/-- At the threshold every mode's operation writes the inverse level: in MODE_3 the fixed level it
writes is the inverse of the one that selects it (R229, R231, R233). -/
theorem opWrites_drvCase_eq (s : State) :
    opWrites (drvCase s) s = { lamp := if s.thrHit then some (!s.lamp) else none } := by
  simp only [drvCase]
  cases hm : s.mode with
  | mode1 => simp [thrHit_mode1 hm]; rfl
  | mode2 => cases s.thrHit <;> rfl
  | mode3 => cases hl : s.lamp <;> cases s.thrHit <;> rfl

/-! ### The pattern after a number of ticks -/

/-- Part (b) of the handler (R126) once for each of a number of ticks, and nothing between them. -/
def patternAfter : Nat → State → State
  | 0, s => s
  | n + 1, s => patternAfter n (advancePattern s)

theorem patternAfter_zero (s : State) : patternAfter 0 s = s := rfl

theorem patternAfter_succ (n : Nat) (s : State) :
    patternAfter (n + 1) s = patternAfter n (advancePattern s) := rfl

theorem patternAfter_succ' (n : Nat) (s : State) :
    patternAfter (n + 1) s = advancePattern (patternAfter n s) := by
  induction n generalizing s with
  | zero => rfl
  | succ n ih => rw [patternAfter_succ, ih, patternAfter_succ]

theorem patternAfter_mode (n : Nat) (s : State) : (patternAfter n s).mode = s.mode := by
  induction n generalizing s with
  | zero => rfl
  | succ n ih => rw [patternAfter_succ, ih, advancePattern_mode]

/-! ### What reads only the pattern side -/

section congr

variable {s s' : State} (h : SamePattern s s')
include h

theorem thrHit_congr : s.thrHit = s'.thrHit := by
  obtain ⟨hm, hl, hp⟩ := h
  simp only [State.thrHit, State.thr, State.phaseNext, hm, hl, hp]

theorem drvCase_congr : drvCase s = drvCase s' := by
  have ht := thrHit_congr h
  obtain ⟨hm, hl, -⟩ := h
  simp only [drvCase, hm, hl, ht]

/-- The driver and the phase counter read nothing but the pattern side. -/
theorem samePattern_advancePattern : SamePattern (advancePattern s) (advancePattern s') := by
  have ht := thrHit_congr h
  obtain ⟨hm, hl, hp⟩ := h
  have hw : patternWrites s = patternWrites s' := by simp only [patternWrites, hm, hl, hp, ht]
  simp [advancePattern_eq_commit, SamePattern, hw, hm, hl, hp]

theorem samePattern_patternAfter (n : Nat) :
    SamePattern (patternAfter n s) (patternAfter n s') := by
  induction n generalizing s s' with
  | zero => exact h
  | succ n ih => exact ih (samePattern_advancePattern h)

end congr

/-- A sample leaves the pattern side alone, so the handler moves it as part (b) alone does (R126). -/
theorem samePattern_handler (s : State) (raw : Bool) :
    SamePattern (handler s raw) (advancePattern s) :=
  samePattern_advancePattern (by simp [SamePattern])

/-- R190, R192: a short press outside MODE_1 leaves the pattern side alone. -/
theorem samePattern_consume {s : State}
    (h : s.releasePending = true → s.isLong = false ∧ s.mode ≠ .mode1) :
    SamePattern (consume s) s := by
  cases hp : s.releasePending with
  | false => rw [consume_eq_self hp]; exact SamePattern.refl _
  | true =>
    obtain ⟨hl, hm⟩ := h hp
    simp [SamePattern, consume_eq_press, hp, hl, State.shortPress, hm]

/-! ### A run is the pattern advanced once for each tick -/

theorem samePattern_clock_of_tickCycle {w : Stim} {s t : State} (hw : TickCycle w)
    (h : clock w s = .next t) : SamePattern t (advancePattern s) := by
  cases h.symm.trans (clock_of_tickCycle hw s)
  exact samePattern_handler s _

theorem samePattern_clock_of_freeCycle {w : Stim} {s t : State} (hw : FreeCycle w)
    (hlong : evLong w s = false) (hshort : evShort w s = true → s.mode ≠ .mode1)
    (h : clock w s = .next t) : SamePattern t s := by
  cases h.symm.trans (clock_of_freeCycle hw s)
  refine samePattern_consume fun hp => ?_
  have hl : s.isLong = false := by simpa [evLong_of_freeCycle hw, hp] using hlong
  exact ⟨hl, hshort (by simp [evShort, consumeFire_of_freeCycle hw, hp, hl])⟩

/-- R239: along an undisturbed script only the number of ticks counts. -/
theorem samePattern_runScript {ws : List Stim} {s t : State}
    (hu : patternUndisturbed ws s = true) (h : runScript ws s = .next t) :
    SamePattern t (patternAfter (ws.countP Stim.tick) s) := by
  induction ws generalizing s with
  | nil => cases h; exact SamePattern.refl _
  | cons w ws ih =>
    obtain ⟨u, hc, -⟩ := clock_total w s
    obtain ⟨hr, hlong, hshort, hu⟩ := (patternUndisturbed_cons ws hc).mp hu
    have hrest := ih hu ((runScript_cons ws hc).symm.trans h)
    cases ht : Stim.tick w with
    | true =>
      rw [List.countP_cons_of_pos ht, patternAfter_succ]
      have htick := samePattern_clock_of_tickCycle ⟨hr, ht⟩ hc
      exact hrest.trans (samePattern_patternAfter htick _)
    | false =>
      have hnot : ¬ Stim.tick w = true := by simp [ht]
      rw [List.countP_cons_of_neg hnot]
      have hfree := samePattern_clock_of_freeCycle ⟨hr, ht⟩ hlong hshort hc
      exact hrest.trans (samePattern_patternAfter hfree _)

/-- Settles O46: the selection and its assignments read the pattern side alone, and each script ends in
the pattern advanced once for each of its ticks. -/
theorem patternIgnoresTheButton : Obligations.PatternIgnoresTheButton := by
  unfold Obligations.PatternIgnoresTheButton
  constructor
  · intro s s' h
    have hcase := drvCase_congr h
    have ht := thrHit_congr h
    obtain ⟨-, hl, -⟩ := h
    refine ⟨by rw [decodeDsel_dsel, decodeDsel_dsel, hcase], fun i hi => ?_⟩
    obtain rfl : drvCase s = i := Option.some.inj ((decodeDsel_dsel s).symm.trans hi)
    rw [opWrites_drvCase_eq, hcase, opWrites_drvCase_eq, ht, hl]
  · intro ws ws' s s' hcount hu hu' h
    obtain ⟨t, ht⟩ := runScript_total ws s
    obtain ⟨t', ht'⟩ := runScript_total ws' s'
    have hend := samePattern_runScript hu ht
    have hend' := samePattern_runScript hu' ht'
    rw [← hcount] at hend'
    have hsame := samePattern_patternAfter h (ws.countP Stim.tick)
    exact ⟨t, t', ht, ht', (hend.trans hsame).trans hend'.symm⟩

/-- The slot of a tick that keeps a mode other than MODE_1 has no long press to consume. -/
theorem samePattern_tickStep {s : State} {raw : Bool} (hm : s.mode ≠ .mode1)
    (hkeep : (tickStep s raw).mode = s.mode) : SamePattern (tickStep s raw) (advancePattern s) := by
  refine SamePattern.trans (samePattern_consume fun hp => ⟨?_, by simpa using hm⟩)
    (samePattern_handler s raw)
  cases hl : (handler s raw).isLong with
  | false => rfl
  | true =>
    have hnext : s.mode.next = s.mode := by
      simpa [tickStep, consume_eq_press, hp, hl, State.longPress] using hkeep
    exact absurd hnext (by cases s.mode <;> decide)

theorem samePattern_ticks {m : Mode} (hm : m ≠ .mode1) {s : State} {raws : List Bool}
    (h : ∀ k, k ≤ raws.length → (ticks s (raws.take k)).mode = m) :
    SamePattern (ticks s raws) (patternAfter raws.length s) := by
  induction raws generalizing s with
  | nil => exact SamePattern.refl _
  | cons raw raws ih =>
    have hs : s.mode = m := by simpa using h 0
    have hstep : (tickStep s raw).mode = m := by simpa using h 1
    have htick : SamePattern (tickStep s raw) (advancePattern s) :=
      samePattern_tickStep (by rwa [hs]) (hstep.trans hs.symm)
    have hrest : SamePattern (ticks (tickStep s raw) raws) _ :=
      ih fun k hk => by simpa using h (k + 1) (by simpa using hk)
    exact hrest.trans (samePattern_patternAfter htick _)

/-! ### The two waveforms -/

theorem advancePattern_lamp (s : State) :
    (advancePattern s).lamp = if s.thrHit then !s.lamp else s.lamp := by
  cases ht : s.thrHit with
  | true => simp [advancePattern_of_thrHit ht]
  | false =>
    by_cases hm : s.mode = .mode1
    · simp [advancePattern_of_mode1 hm]
    · simp [advancePattern_of_not_thrHit hm ht]

theorem advancePattern_phase_toNat {s : State} (hm : s.mode ≠ .mode1) :
    (advancePattern s).phase.toNat = if s.thrHit then 0 else s.phase.toNat + 1 := by
  cases ht : s.thrHit with
  | true => simp [advancePattern_of_thrHit ht]
  | false =>
    have hlt : s.phase.toNat + 1 < 900 := phase_succ_lt_of_not_thrHit hm ht
    simp [advancePattern_of_not_thrHit hm ht]
    omega

/-- R235 on the pattern alone: the `n`-th tick ends a half period exactly when 50 divides `n`. -/
theorem patternAfter_mode2 {s : State} (hm : s.mode = .mode2) (hp : s.phase = 0)
    (hl : s.lamp = false) (n : Nat) :
    (patternAfter n s).lamp = decide (n / 50 % 2 = 1) ∧
    (patternAfter n s).phase.toNat = n % 50 := by
  induction n with
  | zero => simp [patternAfter_zero, hl, hp]
  | succ n ih =>
    obtain ⟨hlamp, hphase⟩ := ih
    have hmode : (patternAfter n s).mode = .mode2 := by rw [patternAfter_mode, hm]
    have hne : (patternAfter n s).mode ≠ .mode1 := by simp [hmode]
    have hhit := thrHit_mode2 hmode
    rw [patternAfter_succ', advancePattern_lamp, advancePattern_phase_toNat hne]
    simp only [hlamp, hphase, hhit]
    by_cases hend : 50 ≤ n % 50 + 1
    · simp only [if_pos hend, ← decide_not, decide_eq_decide]
      omega
    · simp only [if_neg hend, decide_eq_decide]
      omega

/-- R236 on the pattern alone: a window of 100 ticks ON, then one of 900 OFF. -/
theorem patternAfter_mode3 {s : State} (hm : s.mode = .mode3) (hp : s.phase = 0)
    (hl : s.lamp = true) (n : Nat) :
    (patternAfter n s).lamp = decide (n % 1000 < 100) ∧
    (patternAfter n s).phase.toNat =
      if n % 1000 < 100 then n % 1000 else n % 1000 - 100 := by
  induction n with
  | zero => simp [patternAfter_zero, hl, hp]
  | succ n ih =>
    obtain ⟨hlamp, hphase⟩ := ih
    have hmode : (patternAfter n s).mode = .mode3 := by rw [patternAfter_mode, hm]
    have hne : (patternAfter n s).mode ≠ .mode1 := by simp [hmode]
    rw [patternAfter_succ', advancePattern_lamp, advancePattern_phase_toNat hne]
    by_cases hon : n % 1000 < 100
    · simp only [hon, decide_true, if_true] at hlamp hphase
      have hhit := thrHit_mode3_on hmode hlamp
      rw [hphase] at hhit
      by_cases hend : 100 ≤ n % 1000 + 1
      · have hnext : (n + 1) % 1000 = 100 := by omega
        simp [hhit, hend, hlamp, hnext]
      · have hnext : (n + 1) % 1000 = n % 1000 + 1 := by omega
        simp [hhit, hend, hlamp, hphase, hnext]
        omega
    · simp only [hon, decide_false, if_false] at hlamp hphase
      have hhit := thrHit_mode3_off hmode hlamp
      rw [hphase] at hhit
      by_cases hend : 900 ≤ n % 1000 - 100 + 1
      · have hnext : (n + 1) % 1000 = 0 := by omega
        simp [hhit, hend, hlamp, hnext]
      · have hnext : (n + 1) % 1000 = n % 1000 + 1 := by omega
        have hstill : ¬ n % 1000 + 1 < 100 := by omega
        simp [hhit, hend, hlamp, hphase, hnext, hstill]
        omega

theorem clock_of_pending_long {w : Stim} {s : State} (hw : FreeCycle w)
    (hp : s.releasePending = true) (hl : s.isLong = true) : clock w s = .next s.longPress := by
  rw [clock_of_freeCycle hw, consume_eq_press, if_pos hp, if_pos hl]

/-- Settles O44: the long press enters MODE_2 as `longPress` says, and while the mode stays 2 the ticks
are the pattern advanced once each. -/
theorem mode2TogglesEvery50Ticks : Obligations.Mode2TogglesEvery50Ticks := by
  unfold Obligations.Mode2TogglesEvery50Ticks
  constructor
  · intro w s hw hm hp hl
    exact ⟨_, clock_of_pending_long hw hp hl, by simp [State.longPress, hm, Mode.next]⟩
  · intro s raws hm hp hl hstay
    obtain ⟨-, hlamp, hphase⟩ := samePattern_ticks (by decide) hstay
    rw [hlamp, hphase]
    exact patternAfter_mode2 hm hp hl raws.length

/-- Settles O45, as the MODE_2 waveform. -/
theorem mode3FlashesOn100Off900 : Obligations.Mode3FlashesOn100Off900 := by
  unfold Obligations.Mode3FlashesOn100Off900
  constructor
  · intro w s hw hm hp hl
    exact ⟨_, clock_of_pending_long hw hp hl, by simp [State.longPress, hm, Mode.next]⟩
  · intro s raws hm hp hl hstay
    obtain ⟨-, hlamp, hphase⟩ := samePattern_ticks (by decide) hstay
    rw [hlamp, hphase]
    exact patternAfter_mode3 hm hp hl raws.length

end Sys2Proof.Machine
end

section
/-!
SUPPORT. Proofs of the statements on 60_exceptions.md. A tick that releases a long press ends in
`longPress`, whatever the handler did to the pattern before it. The tick generator is a counter modulo
`TICK_DIV`: the edge after a tick clears it, and a cleared prescaler gives no tick.
-/

namespace Sys2Proof.Machine

/-! ### A long release in the tick of a wrap -/

/-- The tick-level step that releases a long press is the handler, then the mode transition (R128). -/
theorem tickStep_of_long_release {s : State} (h0 : s.cnt.val = 0) (hp : s.pressed = true)
    (hd : 3000 ≤ s.dur.toNat) : tickStep s false = (handler s false).longPress := by
  obtain ⟨hside, hpending⟩ := handler_of_release h0 hp
  obtain ⟨-, -, -, hev⟩ := samplerSide_eq_iff.mp hside
  have hlong : (handler s false).isLong = true := (isLong_iff _).mpr (by rwa [hev])
  rw [tickStep, consume_eq_press, if_pos hpending, if_pos hlong]

/-- Settles O47: the transition assigns mode, phase and lamp after the handler's wrap, and it turns the
lamp ON because a wrap shuts out MODE_1. -/
theorem transitionOverridesAWrap : Obligations.TransitionOverridesAWrap := by
  unfold Obligations.TransitionOverridesAWrap
  intro s h0 hp hd hwrap
  have hm : s.mode ≠ .mode1 := fun hm => by simp [thrHit_mode1 hm] at hwrap
  rw [tickStep_of_long_release h0 hp hd]
  exact ⟨by simp [State.longPress, Mode.toNat_next], rfl, by simp [State.longPress, hm]⟩

/-! ### The tick generator -/

namespace Wrapper

variable {tickDiv : Nat} {w : Wrapper}

@[simp] theorem stim_rst (rst : Bool) : Stim.rst (w.stim tickDiv rst) = rst := by
  obtain ⟨hrst, -, -⟩ := stim_ports rst (w.tick tickDiv) w.btnRaw
  exact hrst

@[simp] theorem stim_tick (rst : Bool) : Stim.tick (w.stim tickDiv rst) = w.tick tickDiv := by
  obtain ⟨-, htick, -⟩ := stim_ports rst (w.tick tickDiv) w.btnRaw
  exact htick

theorem tick_iff : w.tick tickDiv = true ↔ w.divCnt + 1 = tickDiv := by simp [Wrapper.tick]

theorem tick_eq_false_of_cleared (hdiv : 2 ≤ tickDiv) (h0 : w.divCnt = 0) :
    w.tick tickDiv = false := by
  rw [Bool.eq_false_iff, ne_eq, tick_iff]
  omega

/-- A reset and a tick each clear the prescaler (R262). -/
theorem next_divCnt_eq_zero {rst : Bool} (btnN : Bool) (h : rst = true ∨ w.tick tickDiv = true) :
    (w.next tickDiv rst btnN).divCnt = 0 := by
  obtain rfl | ht := h
  · rfl
  · simp [Wrapper.next, ht]

/-- Without reset the prescaler counts modulo `TICK_DIV` (R262). -/
theorem next_divCnt_of_no_reset (btnN : Bool) (hlt : w.divCnt < tickDiv) :
    (w.next tickDiv false btnN).divCnt = (w.divCnt + 1) % tickDiv := by
  cases ht : w.tick tickDiv with
  | true => rw [next_divCnt_eq_zero btnN (.inr ht), tick_iff.mp ht, Nat.mod_self]
  | false =>
    have hne : w.divCnt + 1 ≠ tickDiv := fun h => by simp [tick_iff.mpr h] at ht
    rw [Nat.mod_eq_of_lt (by omega)]
    simp [Wrapper.next, ht]

/-- R290 from any cycle on: while a tick has gone by and no free cycle after it, only resets can have
come between, so the prescaler is still cleared. -/
theorem spacedFrom_script (hdiv : 2 ≤ tickDiv) (pins : List (Bool × Bool)) {blocked : Bool}
    (hcleared : blocked = true → w.divCnt = 0) :
    spacedFrom blocked (w.script tickDiv pins) = true := by
  induction pins generalizing blocked w with
  | nil => rfl
  | cons pin pins ih =>
    obtain ⟨rst, btnN⟩ := pin
    cases ht : w.tick tickDiv with
    | true =>
      have hfree : blocked = false := by
        cases blocked with
        | false => rfl
        | true => simp [tick_eq_false_of_cleared hdiv (hcleared rfl)] at ht
      have hrest := ih (w := w.next tickDiv rst btnN) (blocked := true)
        fun _ => next_divCnt_eq_zero btnN (.inr ht)
      simpa [Wrapper.script, spacedFrom, ht, hfree] using hrest
    | false =>
      have hrest := ih (w := w.next tickDiv rst btnN) (blocked := blocked && rst) fun hb => by
        obtain ⟨-, hrst⟩ := Bool.and_eq_true_iff.mp hb
        exact next_divCnt_eq_zero btnN (.inl hrst)
      simpa [Wrapper.script, spacedFrom, ht] using hrest

/-- Without reset the `k`-th word's strobe is 1 exactly when the count, run on for `k` cycles, ends a
round. -/
theorem tick_script_iff {pins : List (Bool × Bool)} (hrst : ∀ p ∈ pins, p.1 = false)
    (hlt : w.divCnt < tickDiv) {k : Nat} {x : Stim} (hx : (w.script tickDiv pins)[k]? = some x) :
    Stim.tick x = true ↔ (w.divCnt + k + 1) % tickDiv = 0 := by
  induction pins generalizing w k with
  | nil => simp [Wrapper.script] at hx
  | cons pin pins ih =>
    obtain ⟨rst, btnN⟩ := pin
    obtain ⟨hr, hrest⟩ := List.forall_mem_cons.mp hrst
    obtain rfl : rst = false := hr
    cases k with
    | zero =>
      obtain rfl : w.stim tickDiv false = x := by simpa [Wrapper.script] using hx
      rw [stim_tick, tick_iff, Nat.add_zero]
      constructor
      · intro h
        rw [h, Nat.mod_self]
      · intro h
        have hle : tickDiv ≤ w.divCnt + 1 :=
          Nat.le_of_dvd (Nat.succ_pos _) (Nat.dvd_of_mod_eq_zero h)
        omega
    | succ k =>
      have hnext := next_divCnt_of_no_reset btnN hlt
      have hlt' : (w.next tickDiv false btnN).divCnt < tickDiv := by
        rw [hnext]
        exact Nat.mod_lt _ (by omega)
      have hround : ((w.divCnt + 1) % tickDiv + k + 1) % tickDiv =
          (w.divCnt + (k + 1) + 1) % tickDiv := by
        rw [Nat.add_assoc, Nat.mod_add_mod]
        congr 1
        omega
      rw [ih hrest hlt' (by simpa [Wrapper.script] using hx), hnext, hround]

end Wrapper

/-- Settles O51, by `Wrapper.spacedFrom_script` from a cycle with no tick before it; the bound on the prescaler
is not needed, since a count past `TICK_DIV` gives no tick. -/
theorem tickGeneratorKeepsTheSpacing : Obligations.TickGeneratorKeepsTheSpacing := by
  unfold Obligations.TickGeneratorKeepsTheSpacing
  intro tickDiv pins w hdiv _
  exact Wrapper.spacedFrom_script hdiv pins fun h => by cases h

/-- Settles O52, by `Wrapper.tick_script_iff` from the count 0. -/
theorem tickGeneratorPeriod : Obligations.TickGeneratorPeriod := by
  unfold Obligations.TickGeneratorPeriod
  intro tickDiv pins w k hdiv h0 hrst x hx
  have hlt : w.divCnt < tickDiv := by omega
  simpa [h0] using Wrapper.tick_script_iff hrst hlt hx

/-! ### The pins -/

/-- Settles O53: each edge moves the pin level one flip-flop on, reset or not, so two edges bring it to
the flip-flop that `btn_raw` inverts; the lamp register is ON after reset. -/
theorem pinsAreInvertedAndSynchronised : Obligations.PinsAreInvertedAndSynchronised := by
  unfold Obligations.PinsAreInvertedAndSynchronised
  exact ⟨fun _ _ _ _ _ _ => rfl, fun _ => rfl, rfl⟩

end Sys2Proof.Machine
end
